-- ==== Sys2Proof/Word.lean ====
section
/-! DEFINITION. The word types of the block (00_scope.md rules R7 and R9). Only the types stand here; every helper
that a test could show wrong (byte order, sign extension, bit fields) stands in Decode.lean or under Machine/. -/

namespace Sys2Proof

/-- 8 bits: A, X, Y, P, SP and one memory cell (R7, R20). -/
abbrev Byte := BitVec 8

/-- 16 bits: PC and every address (R7, R20). -/
abbrev Word := BitVec 16

end Sys2Proof
end

