-- ==== Sys2Proof/Config.lean ====
section
/-! DEFINITION. The named parameters of 00_scope.md rule R8, which the spec leaves to the implementation
(92_eei_decisions.md D4, D8, D9, D15, D16, D18). `INIT_MEM` is the argument of `Machine.State.construct`. The block has
no free value: 93_implementation_defined.md part 1 says that no result is "any value" by nature. -/

namespace Sys2Proof

/-- `BRK_ADVANCE` (R8): PC after BRK is PC plus 1 or plus 2. -/
inductive BrkAdvance where
  | one
  | two
  deriving DecidableEq, Repr

/-- The configuration record of R8. It is fixed for one machine: no step changes it (R34). -/
structure Config where
  /-- `ENTRY_PC`: PC after reset. -/
  entryPc : Word
  /-- `XFER_PRESENT`: whether TAX, TAY, TXA, TYA are mapped. -/
  xferPresent : Bool
  /-- `BRK_ADVANCE`: where execution continues after BRK. -/
  brkAdvance : BrkAdvance
  /-- `BRK_SETS_I`: whether BRK sets P.I after its pushes. -/
  brkSetsI : Bool
  /-- `ZP_PTR_WRAP`: whether the high byte of a zero-page pointer at 0x00FF comes from 0x0000. -/
  zpPtrWrap : Bool
  /-- `JMP_IND_PAGE_WRAP`: whether JMP (indirect) wraps inside the page of its pointer. -/
  jmpIndPageWrap : Bool
  deriving DecidableEq, Repr

/-- The default of every parameter, as R8's table gives it (log entry 2). -/
def Config.default : Config where
  entryPc := 0x0000
  xferPresent := true
  brkAdvance := .one
  brkSetsI := true
  zpPtrWrap := true
  jmpIndPageWrap := false

end Sys2Proof
end

