-- ==== Sys2Proof/Syntax.lean ====
section
/-! DEFINITION. The instructions as data: one constructor of `Instr` for each of the 151 rows of
spec/opcode_table.json (30_encoding.md rule R86), named after the row's mnemonic, followed by its addressing mode where
the mnemonic has more than one. A constructor's argument is the operand of the row's format (R80, R82): none for F1,
the byte `op8` for F2, the 16-bit value formed from the low and high byte for F3. -/

namespace Sys2Proof

/-- The 56 mnemonics (R86). -/
inductive Mnemonic where
  | ADC | AND | ASL | BCC | BCS | BEQ | BIT | BMI
  | BNE | BPL | BRK | BVC | BVS | CLC | CLD | CLI
  | CLV | CMP | CPX | CPY | DEC | DEX | DEY | EOR
  | INC | INX | INY | JMP | JSR | LDA | LDX | LDY
  | LSR | NOP | ORA | PHA | PHP | PLA | PLP | ROL
  | ROR | RTI | RTS | SBC | SEC | SED | SEI | STA
  | STX | STY | TAX | TAY | TSX | TXA | TXS | TYA
  deriving DecidableEq, Repr

/-- The thirteen addressing modes (R81). -/
inductive Mode where
  | IMP | ACC | IMM | ZP | ZPX | ZPY | ABS | ABX | ABY | IND | IZX | IZY | REL
  deriving DecidableEq, Repr

/-- An addressing mode with the value of its operand bytes (R81, R82). -/
inductive Operand where
  | imp
  | acc
  | imm (v : Byte)
  | zp (b : Byte)
  | zpx (b : Byte)
  | zpy (b : Byte)
  | abs (w : Word)
  | abx (w : Word)
  | aby (w : Word)
  | ind (w : Word)
  | izx (b : Byte)
  | izy (b : Byte)
  | rel (d : Byte)
  deriving DecidableEq, Repr

/-- The instructions, in the order of R86's table. -/
inductive Instr where
  | adcImm (v : Byte) | adcZp (b : Byte) | adcZpx (b : Byte) | adcAbs (w : Word) | adcAbx (w : Word) | adcAby (w : Word) | adcIzx (b : Byte) | adcIzy (b : Byte)
  | andImm (v : Byte) | andZp (b : Byte) | andZpx (b : Byte) | andAbs (w : Word) | andAbx (w : Word) | andAby (w : Word) | andIzx (b : Byte) | andIzy (b : Byte)
  | aslAcc | aslZp (b : Byte) | aslZpx (b : Byte) | aslAbs (w : Word) | aslAbx (w : Word)
  | bcc (d : Byte)
  | bcs (d : Byte)
  | beq (d : Byte)
  | bitZp (b : Byte) | bitAbs (w : Word)
  | bmi (d : Byte)
  | bne (d : Byte)
  | bpl (d : Byte)
  | brk
  | bvc (d : Byte)
  | bvs (d : Byte)
  | clc
  | cld
  | cli
  | clv
  | cmpImm (v : Byte) | cmpZp (b : Byte) | cmpZpx (b : Byte) | cmpAbs (w : Word) | cmpAbx (w : Word) | cmpAby (w : Word) | cmpIzx (b : Byte) | cmpIzy (b : Byte)
  | cpxImm (v : Byte) | cpxZp (b : Byte) | cpxAbs (w : Word)
  | cpyImm (v : Byte) | cpyZp (b : Byte) | cpyAbs (w : Word)
  | decZp (b : Byte) | decZpx (b : Byte) | decAbs (w : Word) | decAbx (w : Word)
  | dex
  | dey
  | eorImm (v : Byte) | eorZp (b : Byte) | eorZpx (b : Byte) | eorAbs (w : Word) | eorAbx (w : Word) | eorAby (w : Word) | eorIzx (b : Byte) | eorIzy (b : Byte)
  | incZp (b : Byte) | incZpx (b : Byte) | incAbs (w : Word) | incAbx (w : Word)
  | inx
  | iny
  | jmpAbs (w : Word) | jmpInd (w : Word)
  | jsr (w : Word)
  | ldaImm (v : Byte) | ldaZp (b : Byte) | ldaZpx (b : Byte) | ldaAbs (w : Word) | ldaAbx (w : Word) | ldaAby (w : Word) | ldaIzx (b : Byte) | ldaIzy (b : Byte)
  | ldxImm (v : Byte) | ldxZp (b : Byte) | ldxZpy (b : Byte) | ldxAbs (w : Word) | ldxAby (w : Word)
  | ldyImm (v : Byte) | ldyZp (b : Byte) | ldyZpx (b : Byte) | ldyAbs (w : Word) | ldyAbx (w : Word)
  | lsrAcc | lsrZp (b : Byte) | lsrZpx (b : Byte) | lsrAbs (w : Word) | lsrAbx (w : Word)
  | nop
  | oraImm (v : Byte) | oraZp (b : Byte) | oraZpx (b : Byte) | oraAbs (w : Word) | oraAbx (w : Word) | oraAby (w : Word) | oraIzx (b : Byte) | oraIzy (b : Byte)
  | pha
  | php
  | pla
  | plp
  | rolAcc | rolZp (b : Byte) | rolZpx (b : Byte) | rolAbs (w : Word) | rolAbx (w : Word)
  | rorAcc | rorZp (b : Byte) | rorZpx (b : Byte) | rorAbs (w : Word) | rorAbx (w : Word)
  | rti
  | rts
  | sbcImm (v : Byte) | sbcZp (b : Byte) | sbcZpx (b : Byte) | sbcAbs (w : Word) | sbcAbx (w : Word) | sbcAby (w : Word) | sbcIzx (b : Byte) | sbcIzy (b : Byte)
  | sec
  | sed
  | sei
  | staZp (b : Byte) | staZpx (b : Byte) | staAbs (w : Word) | staAbx (w : Word) | staAby (w : Word) | staIzx (b : Byte) | staIzy (b : Byte)
  | stxZp (b : Byte) | stxZpy (b : Byte) | stxAbs (w : Word)
  | styZp (b : Byte) | styZpx (b : Byte) | styAbs (w : Word)
  | tax
  | tay
  | tsx
  | txa
  | txs
  | tya
  deriving DecidableEq, Repr

end Sys2Proof
end

