-- ==== Sys2Proof/WellFormed.lean ====
section
/-! DEFINITION. Which instructions exist. Every operand value is legal (30_encoding.md rule R91) and a pair of mnemonic
and mode outside R86 has no constructor, so the one check is R88's: the four register transfers are instructions only
when `XFER_PRESENT`. -/

namespace Sys2Proof

/-- The four register transfers of R88. -/
def Instr.isTransfer (i : Instr) : Bool := [Instr.tax, .tay, .txa, .tya].contains i

/-- R88, R91: an instruction is well-formed under a configuration unless it is a transfer and `XFER_PRESENT` is false. -/
def Instr.wellFormed (cfg : Config) (i : Instr) : Bool := cfg.xferPresent || !i.isTransfer

end Sys2Proof
end

