-- ==== Sys2Proof/Decode.lean ====
section
/-! DEFINITION. The decoder and the encoder (30_encoding.md). The decoder is written from the 16 by 16 matrix of R87, the
encoder from the mnemonic by mode table of R86: the spec gives both views so that one can be checked against the
other, and the round trip of decode and encode is that check. The opcode bytes and mode sets themselves are the decisions
D2, D3 and D35 of the spec (PRESUMED, log entry 4). -/

namespace Sys2Proof

/-! ## Byte order and lengths -/

/-- A 16-bit value from its two bytes, high byte first in the argument list (R54, R82: `(hi << 8) | lo`). -/
def wordOf (hi lo : Byte) : Word := hi ++ lo

/-- Bits 15 to 8 of a word (R9). -/
def hiByte (w : Word) : Byte := w.extractLsb' 8 8

/-- Bits 7 to 0 of a word (R9). -/
def loByte (w : Word) : Byte := w.extractLsb' 0 8

/-- `Len(mode)`, the length of an instruction in bytes (R81). -/
def Mode.length : Mode → Nat
  | .IMP | .ACC => 1
  | .IMM | .ZP | .ZPX | .ZPY | .REL | .IZX | .IZY => 2
  | .ABS | .ABX | .ABY | .IND => 3

/-- The mode tag of an operand (R81). -/
def Operand.mode : Operand → Mode
  | .imp => .IMP
  | .acc => .ACC
  | .imm _ => .IMM
  | .zp _ => .ZP
  | .zpx _ => .ZPX
  | .zpy _ => .ZPY
  | .abs _ => .ABS
  | .abx _ => .ABX
  | .aby _ => .ABY
  | .ind _ => .IND
  | .izx _ => .IZX
  | .izy _ => .IZY
  | .rel _ => .REL

/-! ## The decoder -/

/-- What a mapped opcode byte says: the format (R80: F1, F2, F3) and the instruction its operand bytes complete. -/
inductive Format where
  | f1 (i : Instr)
  | f2 (mk : Byte → Instr)
  | f3 (mk : Word → Instr)

/-- The instruction of a format, from the two bytes after the opcode; F1 uses neither, F2 the first only (R80, R82). -/
def Format.assemble : Format → Byte → Byte → Instr
  | .f1 i, _, _ => i
  | .f2 mk, op8, _ => mk op8
  | .f3 mk, lo, hi => mk (wordOf hi lo)

/-- Row 0x of R87's matrix; `none` is an unmapped byte. -/
def matrixRow0 : List (Option Format) :=
  [some (.f1 Instr.brk), some (.f2 Instr.oraIzx), none, none,
   none, some (.f2 Instr.oraZp), some (.f2 Instr.aslZp), none,
   some (.f1 Instr.php), some (.f2 Instr.oraImm), some (.f1 Instr.aslAcc), none,
   none, some (.f3 Instr.oraAbs), some (.f3 Instr.aslAbs), none]

/-- Row 1x of R87's matrix; `none` is an unmapped byte. -/
def matrixRow1 : List (Option Format) :=
  [some (.f2 Instr.bpl), some (.f2 Instr.oraIzy), none, none,
   none, some (.f2 Instr.oraZpx), some (.f2 Instr.aslZpx), none,
   some (.f1 Instr.clc), some (.f3 Instr.oraAby), none, none,
   none, some (.f3 Instr.oraAbx), some (.f3 Instr.aslAbx), none]

/-- Row 2x of R87's matrix; `none` is an unmapped byte. -/
def matrixRow2 : List (Option Format) :=
  [some (.f3 Instr.jsr), some (.f2 Instr.andIzx), none, none,
   some (.f2 Instr.bitZp), some (.f2 Instr.andZp), some (.f2 Instr.rolZp), none,
   some (.f1 Instr.plp), some (.f2 Instr.andImm), some (.f1 Instr.rolAcc), none,
   some (.f3 Instr.bitAbs), some (.f3 Instr.andAbs), some (.f3 Instr.rolAbs), none]

/-- Row 3x of R87's matrix; `none` is an unmapped byte. -/
def matrixRow3 : List (Option Format) :=
  [some (.f2 Instr.bmi), some (.f2 Instr.andIzy), none, none,
   none, some (.f2 Instr.andZpx), some (.f2 Instr.rolZpx), none,
   some (.f1 Instr.sec), some (.f3 Instr.andAby), none, none,
   none, some (.f3 Instr.andAbx), some (.f3 Instr.rolAbx), none]

/-- Row 4x of R87's matrix; `none` is an unmapped byte. -/
def matrixRow4 : List (Option Format) :=
  [some (.f1 Instr.rti), some (.f2 Instr.eorIzx), none, none,
   none, some (.f2 Instr.eorZp), some (.f2 Instr.lsrZp), none,
   some (.f1 Instr.pha), some (.f2 Instr.eorImm), some (.f1 Instr.lsrAcc), none,
   some (.f3 Instr.jmpAbs), some (.f3 Instr.eorAbs), some (.f3 Instr.lsrAbs), none]

/-- Row 5x of R87's matrix; `none` is an unmapped byte. -/
def matrixRow5 : List (Option Format) :=
  [some (.f2 Instr.bvc), some (.f2 Instr.eorIzy), none, none,
   none, some (.f2 Instr.eorZpx), some (.f2 Instr.lsrZpx), none,
   some (.f1 Instr.cli), some (.f3 Instr.eorAby), none, none,
   none, some (.f3 Instr.eorAbx), some (.f3 Instr.lsrAbx), none]

/-- Row 6x of R87's matrix; `none` is an unmapped byte. -/
def matrixRow6 : List (Option Format) :=
  [some (.f1 Instr.rts), some (.f2 Instr.adcIzx), none, none,
   none, some (.f2 Instr.adcZp), some (.f2 Instr.rorZp), none,
   some (.f1 Instr.pla), some (.f2 Instr.adcImm), some (.f1 Instr.rorAcc), none,
   some (.f3 Instr.jmpInd), some (.f3 Instr.adcAbs), some (.f3 Instr.rorAbs), none]

/-- Row 7x of R87's matrix; `none` is an unmapped byte. -/
def matrixRow7 : List (Option Format) :=
  [some (.f2 Instr.bvs), some (.f2 Instr.adcIzy), none, none,
   none, some (.f2 Instr.adcZpx), some (.f2 Instr.rorZpx), none,
   some (.f1 Instr.sei), some (.f3 Instr.adcAby), none, none,
   none, some (.f3 Instr.adcAbx), some (.f3 Instr.rorAbx), none]

/-- Row 8x of R87's matrix; `none` is an unmapped byte. -/
def matrixRow8 : List (Option Format) :=
  [none, some (.f2 Instr.staIzx), none, none,
   some (.f2 Instr.styZp), some (.f2 Instr.staZp), some (.f2 Instr.stxZp), none,
   some (.f1 Instr.dey), none, some (.f1 Instr.txa), none,
   some (.f3 Instr.styAbs), some (.f3 Instr.staAbs), some (.f3 Instr.stxAbs), none]

/-- Row 9x of R87's matrix; `none` is an unmapped byte. -/
def matrixRow9 : List (Option Format) :=
  [some (.f2 Instr.bcc), some (.f2 Instr.staIzy), none, none,
   some (.f2 Instr.styZpx), some (.f2 Instr.staZpx), some (.f2 Instr.stxZpy), none,
   some (.f1 Instr.tya), some (.f3 Instr.staAby), some (.f1 Instr.txs), none,
   none, some (.f3 Instr.staAbx), none, none]

/-- Row Ax of R87's matrix; `none` is an unmapped byte. -/
def matrixRowA : List (Option Format) :=
  [some (.f2 Instr.ldyImm), some (.f2 Instr.ldaIzx), some (.f2 Instr.ldxImm), none,
   some (.f2 Instr.ldyZp), some (.f2 Instr.ldaZp), some (.f2 Instr.ldxZp), none,
   some (.f1 Instr.tay), some (.f2 Instr.ldaImm), some (.f1 Instr.tax), none,
   some (.f3 Instr.ldyAbs), some (.f3 Instr.ldaAbs), some (.f3 Instr.ldxAbs), none]

/-- Row Bx of R87's matrix; `none` is an unmapped byte. -/
def matrixRowB : List (Option Format) :=
  [some (.f2 Instr.bcs), some (.f2 Instr.ldaIzy), none, none,
   some (.f2 Instr.ldyZpx), some (.f2 Instr.ldaZpx), some (.f2 Instr.ldxZpy), none,
   some (.f1 Instr.clv), some (.f3 Instr.ldaAby), some (.f1 Instr.tsx), none,
   some (.f3 Instr.ldyAbx), some (.f3 Instr.ldaAbx), some (.f3 Instr.ldxAby), none]

/-- Row Cx of R87's matrix; `none` is an unmapped byte. -/
def matrixRowC : List (Option Format) :=
  [some (.f2 Instr.cpyImm), some (.f2 Instr.cmpIzx), none, none,
   some (.f2 Instr.cpyZp), some (.f2 Instr.cmpZp), some (.f2 Instr.decZp), none,
   some (.f1 Instr.iny), some (.f2 Instr.cmpImm), some (.f1 Instr.dex), none,
   some (.f3 Instr.cpyAbs), some (.f3 Instr.cmpAbs), some (.f3 Instr.decAbs), none]

/-- Row Dx of R87's matrix; `none` is an unmapped byte. -/
def matrixRowD : List (Option Format) :=
  [some (.f2 Instr.bne), some (.f2 Instr.cmpIzy), none, none,
   none, some (.f2 Instr.cmpZpx), some (.f2 Instr.decZpx), none,
   some (.f1 Instr.cld), some (.f3 Instr.cmpAby), none, none,
   none, some (.f3 Instr.cmpAbx), some (.f3 Instr.decAbx), none]

/-- Row Ex of R87's matrix; `none` is an unmapped byte. -/
def matrixRowE : List (Option Format) :=
  [some (.f2 Instr.cpxImm), some (.f2 Instr.sbcIzx), none, none,
   some (.f2 Instr.cpxZp), some (.f2 Instr.sbcZp), some (.f2 Instr.incZp), none,
   some (.f1 Instr.inx), some (.f2 Instr.sbcImm), some (.f1 Instr.nop), none,
   some (.f3 Instr.cpxAbs), some (.f3 Instr.sbcAbs), some (.f3 Instr.incAbs), none]

/-- Row Fx of R87's matrix; `none` is an unmapped byte. -/
def matrixRowF : List (Option Format) :=
  [some (.f2 Instr.beq), some (.f2 Instr.sbcIzy), none, none,
   none, some (.f2 Instr.sbcZpx), some (.f2 Instr.incZpx), none,
   some (.f1 Instr.sed), some (.f3 Instr.sbcAby), none, none,
   none, some (.f3 Instr.sbcAbx), some (.f3 Instr.incAbx), none]

/-- R87: the matrix, one row for each high nibble of the opcode. -/
def opcodeMatrix : List (List (Option Format)) :=
  [matrixRow0, matrixRow1, matrixRow2, matrixRow3, matrixRow4, matrixRow5, matrixRow6, matrixRow7,
   matrixRow8, matrixRow9, matrixRowA, matrixRowB, matrixRowC, matrixRowD, matrixRowE, matrixRowF]

/-- The matrix at one opcode byte, row by its high nibble, column by its low nibble. -/
def matrixCell (op : Byte) : Option Format :=
  ((opcodeMatrix[op.toNat / 16]?).bind (fun row => row[op.toNat % 16]?)).join

/-- The opcode bytes of the four register transfers (R88): TAX, TAY, TXA, TYA. -/
def transferOpcodes : List Byte := [0xAA, 0xA8, 0x8A, 0x98]

/-- `Decode` of R83: total on the 256 bytes, `none` is Unmapped. It looks at the opcode byte alone, and the four
transfers are mapped only when `XFER_PRESENT` (R88). -/
def decodeOpcode (cfg : Config) (op : Byte) : Option Format :=
  if cfg.xferPresent = false ∧ op ∈ transferOpcodes then none else matrixCell op

/-- The instruction that an opcode byte and the two bytes after it stand for; `none` when the opcode is unmapped. -/
def decodeWindow (cfg : Config) (op b1 b2 : Byte) : Option Instr :=
  (decodeOpcode cfg op).map (fun f => f.assemble b1 b2)

/-- What decoding a sequence of bytes answers. -/
inductive Decoded where
  /-- An instruction and the bytes after it. -/
  | instr (i : Instr) (rest : List Byte)
  /-- The first byte is unmapped (R90). -/
  | unmapped (op : Byte)
  /-- The bytes end inside an instruction; a step never meets this, since memory has no end (R61; log entry 19). -/
  | truncated
  deriving DecidableEq, Repr

/-- The operand bytes of a format taken from the bytes after the opcode (R80). -/
def Format.read : Format → List Byte → Decoded
  | .f1 i, r => .instr i r
  | .f2 mk, op8 :: r => .instr (mk op8) r
  | .f3 mk, lo :: hi :: r => .instr (mk (wordOf hi lo)) r
  | .f2 _, [] => .truncated
  | .f3 _, [] => .truncated
  | .f3 _, [_] => .truncated

/-- The decoder on a sequence of bytes (R83, R92): the opcode byte alone gives the format and so the length. -/
def decode (cfg : Config) : List Byte → Decoded
  | [] => .truncated
  | op :: rest =>
    match decodeOpcode cfg op with
    | none => .unmapped op
    | some f => f.read rest

/-! ## The encoder -/

/-- One row of R86 with its operand: the mnemonic, the opcode byte, the mode and operand value. -/
structure Row where
  mnemonic : Mnemonic
  opcode : Byte
  operand : Operand
  deriving DecidableEq, Repr

/-- R86: the row of each instruction. -/
def Instr.row : Instr → Row
  | .adcImm v => ⟨.ADC, 0x69, .imm v⟩
  | .adcZp b => ⟨.ADC, 0x65, .zp b⟩
  | .adcZpx b => ⟨.ADC, 0x75, .zpx b⟩
  | .adcAbs w => ⟨.ADC, 0x6D, .abs w⟩
  | .adcAbx w => ⟨.ADC, 0x7D, .abx w⟩
  | .adcAby w => ⟨.ADC, 0x79, .aby w⟩
  | .adcIzx b => ⟨.ADC, 0x61, .izx b⟩
  | .adcIzy b => ⟨.ADC, 0x71, .izy b⟩
  | .andImm v => ⟨.AND, 0x29, .imm v⟩
  | .andZp b => ⟨.AND, 0x25, .zp b⟩
  | .andZpx b => ⟨.AND, 0x35, .zpx b⟩
  | .andAbs w => ⟨.AND, 0x2D, .abs w⟩
  | .andAbx w => ⟨.AND, 0x3D, .abx w⟩
  | .andAby w => ⟨.AND, 0x39, .aby w⟩
  | .andIzx b => ⟨.AND, 0x21, .izx b⟩
  | .andIzy b => ⟨.AND, 0x31, .izy b⟩
  | .aslAcc => ⟨.ASL, 0x0A, .acc⟩
  | .aslZp b => ⟨.ASL, 0x06, .zp b⟩
  | .aslZpx b => ⟨.ASL, 0x16, .zpx b⟩
  | .aslAbs w => ⟨.ASL, 0x0E, .abs w⟩
  | .aslAbx w => ⟨.ASL, 0x1E, .abx w⟩
  | .bcc d => ⟨.BCC, 0x90, .rel d⟩
  | .bcs d => ⟨.BCS, 0xB0, .rel d⟩
  | .beq d => ⟨.BEQ, 0xF0, .rel d⟩
  | .bitZp b => ⟨.BIT, 0x24, .zp b⟩
  | .bitAbs w => ⟨.BIT, 0x2C, .abs w⟩
  | .bmi d => ⟨.BMI, 0x30, .rel d⟩
  | .bne d => ⟨.BNE, 0xD0, .rel d⟩
  | .bpl d => ⟨.BPL, 0x10, .rel d⟩
  | .brk => ⟨.BRK, 0x00, .imp⟩
  | .bvc d => ⟨.BVC, 0x50, .rel d⟩
  | .bvs d => ⟨.BVS, 0x70, .rel d⟩
  | .clc => ⟨.CLC, 0x18, .imp⟩
  | .cld => ⟨.CLD, 0xD8, .imp⟩
  | .cli => ⟨.CLI, 0x58, .imp⟩
  | .clv => ⟨.CLV, 0xB8, .imp⟩
  | .cmpImm v => ⟨.CMP, 0xC9, .imm v⟩
  | .cmpZp b => ⟨.CMP, 0xC5, .zp b⟩
  | .cmpZpx b => ⟨.CMP, 0xD5, .zpx b⟩
  | .cmpAbs w => ⟨.CMP, 0xCD, .abs w⟩
  | .cmpAbx w => ⟨.CMP, 0xDD, .abx w⟩
  | .cmpAby w => ⟨.CMP, 0xD9, .aby w⟩
  | .cmpIzx b => ⟨.CMP, 0xC1, .izx b⟩
  | .cmpIzy b => ⟨.CMP, 0xD1, .izy b⟩
  | .cpxImm v => ⟨.CPX, 0xE0, .imm v⟩
  | .cpxZp b => ⟨.CPX, 0xE4, .zp b⟩
  | .cpxAbs w => ⟨.CPX, 0xEC, .abs w⟩
  | .cpyImm v => ⟨.CPY, 0xC0, .imm v⟩
  | .cpyZp b => ⟨.CPY, 0xC4, .zp b⟩
  | .cpyAbs w => ⟨.CPY, 0xCC, .abs w⟩
  | .decZp b => ⟨.DEC, 0xC6, .zp b⟩
  | .decZpx b => ⟨.DEC, 0xD6, .zpx b⟩
  | .decAbs w => ⟨.DEC, 0xCE, .abs w⟩
  | .decAbx w => ⟨.DEC, 0xDE, .abx w⟩
  | .dex => ⟨.DEX, 0xCA, .imp⟩
  | .dey => ⟨.DEY, 0x88, .imp⟩
  | .eorImm v => ⟨.EOR, 0x49, .imm v⟩
  | .eorZp b => ⟨.EOR, 0x45, .zp b⟩
  | .eorZpx b => ⟨.EOR, 0x55, .zpx b⟩
  | .eorAbs w => ⟨.EOR, 0x4D, .abs w⟩
  | .eorAbx w => ⟨.EOR, 0x5D, .abx w⟩
  | .eorAby w => ⟨.EOR, 0x59, .aby w⟩
  | .eorIzx b => ⟨.EOR, 0x41, .izx b⟩
  | .eorIzy b => ⟨.EOR, 0x51, .izy b⟩
  | .incZp b => ⟨.INC, 0xE6, .zp b⟩
  | .incZpx b => ⟨.INC, 0xF6, .zpx b⟩
  | .incAbs w => ⟨.INC, 0xEE, .abs w⟩
  | .incAbx w => ⟨.INC, 0xFE, .abx w⟩
  | .inx => ⟨.INX, 0xE8, .imp⟩
  | .iny => ⟨.INY, 0xC8, .imp⟩
  | .jmpAbs w => ⟨.JMP, 0x4C, .abs w⟩
  | .jmpInd w => ⟨.JMP, 0x6C, .ind w⟩
  | .jsr w => ⟨.JSR, 0x20, .abs w⟩
  | .ldaImm v => ⟨.LDA, 0xA9, .imm v⟩
  | .ldaZp b => ⟨.LDA, 0xA5, .zp b⟩
  | .ldaZpx b => ⟨.LDA, 0xB5, .zpx b⟩
  | .ldaAbs w => ⟨.LDA, 0xAD, .abs w⟩
  | .ldaAbx w => ⟨.LDA, 0xBD, .abx w⟩
  | .ldaAby w => ⟨.LDA, 0xB9, .aby w⟩
  | .ldaIzx b => ⟨.LDA, 0xA1, .izx b⟩
  | .ldaIzy b => ⟨.LDA, 0xB1, .izy b⟩
  | .ldxImm v => ⟨.LDX, 0xA2, .imm v⟩
  | .ldxZp b => ⟨.LDX, 0xA6, .zp b⟩
  | .ldxZpy b => ⟨.LDX, 0xB6, .zpy b⟩
  | .ldxAbs w => ⟨.LDX, 0xAE, .abs w⟩
  | .ldxAby w => ⟨.LDX, 0xBE, .aby w⟩
  | .ldyImm v => ⟨.LDY, 0xA0, .imm v⟩
  | .ldyZp b => ⟨.LDY, 0xA4, .zp b⟩
  | .ldyZpx b => ⟨.LDY, 0xB4, .zpx b⟩
  | .ldyAbs w => ⟨.LDY, 0xAC, .abs w⟩
  | .ldyAbx w => ⟨.LDY, 0xBC, .abx w⟩
  | .lsrAcc => ⟨.LSR, 0x4A, .acc⟩
  | .lsrZp b => ⟨.LSR, 0x46, .zp b⟩
  | .lsrZpx b => ⟨.LSR, 0x56, .zpx b⟩
  | .lsrAbs w => ⟨.LSR, 0x4E, .abs w⟩
  | .lsrAbx w => ⟨.LSR, 0x5E, .abx w⟩
  | .nop => ⟨.NOP, 0xEA, .imp⟩
  | .oraImm v => ⟨.ORA, 0x09, .imm v⟩
  | .oraZp b => ⟨.ORA, 0x05, .zp b⟩
  | .oraZpx b => ⟨.ORA, 0x15, .zpx b⟩
  | .oraAbs w => ⟨.ORA, 0x0D, .abs w⟩
  | .oraAbx w => ⟨.ORA, 0x1D, .abx w⟩
  | .oraAby w => ⟨.ORA, 0x19, .aby w⟩
  | .oraIzx b => ⟨.ORA, 0x01, .izx b⟩
  | .oraIzy b => ⟨.ORA, 0x11, .izy b⟩
  | .pha => ⟨.PHA, 0x48, .imp⟩
  | .php => ⟨.PHP, 0x08, .imp⟩
  | .pla => ⟨.PLA, 0x68, .imp⟩
  | .plp => ⟨.PLP, 0x28, .imp⟩
  | .rolAcc => ⟨.ROL, 0x2A, .acc⟩
  | .rolZp b => ⟨.ROL, 0x26, .zp b⟩
  | .rolZpx b => ⟨.ROL, 0x36, .zpx b⟩
  | .rolAbs w => ⟨.ROL, 0x2E, .abs w⟩
  | .rolAbx w => ⟨.ROL, 0x3E, .abx w⟩
  | .rorAcc => ⟨.ROR, 0x6A, .acc⟩
  | .rorZp b => ⟨.ROR, 0x66, .zp b⟩
  | .rorZpx b => ⟨.ROR, 0x76, .zpx b⟩
  | .rorAbs w => ⟨.ROR, 0x6E, .abs w⟩
  | .rorAbx w => ⟨.ROR, 0x7E, .abx w⟩
  | .rti => ⟨.RTI, 0x40, .imp⟩
  | .rts => ⟨.RTS, 0x60, .imp⟩
  | .sbcImm v => ⟨.SBC, 0xE9, .imm v⟩
  | .sbcZp b => ⟨.SBC, 0xE5, .zp b⟩
  | .sbcZpx b => ⟨.SBC, 0xF5, .zpx b⟩
  | .sbcAbs w => ⟨.SBC, 0xED, .abs w⟩
  | .sbcAbx w => ⟨.SBC, 0xFD, .abx w⟩
  | .sbcAby w => ⟨.SBC, 0xF9, .aby w⟩
  | .sbcIzx b => ⟨.SBC, 0xE1, .izx b⟩
  | .sbcIzy b => ⟨.SBC, 0xF1, .izy b⟩
  | .sec => ⟨.SEC, 0x38, .imp⟩
  | .sed => ⟨.SED, 0xF8, .imp⟩
  | .sei => ⟨.SEI, 0x78, .imp⟩
  | .staZp b => ⟨.STA, 0x85, .zp b⟩
  | .staZpx b => ⟨.STA, 0x95, .zpx b⟩
  | .staAbs w => ⟨.STA, 0x8D, .abs w⟩
  | .staAbx w => ⟨.STA, 0x9D, .abx w⟩
  | .staAby w => ⟨.STA, 0x99, .aby w⟩
  | .staIzx b => ⟨.STA, 0x81, .izx b⟩
  | .staIzy b => ⟨.STA, 0x91, .izy b⟩
  | .stxZp b => ⟨.STX, 0x86, .zp b⟩
  | .stxZpy b => ⟨.STX, 0x96, .zpy b⟩
  | .stxAbs w => ⟨.STX, 0x8E, .abs w⟩
  | .styZp b => ⟨.STY, 0x84, .zp b⟩
  | .styZpx b => ⟨.STY, 0x94, .zpx b⟩
  | .styAbs w => ⟨.STY, 0x8C, .abs w⟩
  | .tax => ⟨.TAX, 0xAA, .imp⟩
  | .tay => ⟨.TAY, 0xA8, .imp⟩
  | .tsx => ⟨.TSX, 0xBA, .imp⟩
  | .txa => ⟨.TXA, 0x8A, .imp⟩
  | .txs => ⟨.TXS, 0x9A, .imp⟩
  | .tya => ⟨.TYA, 0x98, .imp⟩

/-- The mnemonic of an instruction (R86). -/
def Instr.mnemonic (i : Instr) : Mnemonic := i.row.mnemonic

/-- The opcode byte of an instruction (R86). -/
def Instr.opcode (i : Instr) : Byte := i.row.opcode

/-- The mode and operand of an instruction (R86). -/
def Instr.operand (i : Instr) : Operand := i.row.operand

/-- The addressing mode of an instruction (R86). -/
def Instr.mode (i : Instr) : Mode := i.operand.mode

/-- The length of an instruction in bytes (R81, R92). -/
def Instr.length (i : Instr) : Nat := i.mode.length

/-- The operand bytes of an instruction, in ascending addresses: a 16-bit operand has its low byte first (R54, R80). -/
def Operand.bytes : Operand → List Byte
  | .imp | .acc => []
  | .imm x | .zp x | .zpx x | .zpy x | .izx x | .izy x | .rel x => [x]
  | .abs w | .abx w | .aby w | .ind w => [loByte w, hiByte w]

/-- The bytes of an instruction: the opcode, then the operand bytes (R80). -/
def encode (i : Instr) : List Byte := i.opcode :: i.operand.bytes

/-! ## The host's view of one table word -/

/-- Byte `k` of an instruction whose bits are `w`, numbered from the least significant bit of its first byte, with every
bit from `nbits` up being 0 (R80: byte 0 is bits 7 to 0). -/
def tableByte (nbits w k : Nat) : Byte := BitVec.ofNat 8 (w % 2 ^ nbits / 256 ^ k)

/-- The instruction the decoder reads from a table word under the default parameters. -/
def decodeTableWord (nbits w : Nat) : Option Instr :=
  decodeWindow Config.default (tableByte nbits w 0) (tableByte nbits w 1) (tableByte nbits w 2)

end Sys2Proof
end

