-- ==== Sys2Proof/Machine/State.lean ====
section
/-! DEFINITION. The whole state of the block (10_state.md rule R20): the six registers of the Register File and the
memory, as plain data, with the configuration record beside them; the reasons a step can stop; reset. -/

namespace Sys2Proof.Machine

/-- The 65,536 cells of R50 as the list of those that differ from what an unlisted address reads as, addresses rising
(the form is `Memory.wf` of Ops.lean). -/
abbrev Memory := List Host.Cell

/-- The eight bits of P by name (R25); `u` is the bit the spec calls unused. -/
inductive Flag where
  | c | z | i | d | b | u | v | n
  deriving DecidableEq, Repr

/-- R20. The spec gives the block no other state (R33). -/
structure State where
  /-- A, the accumulator (R21). -/
  a : Byte
  /-- X, an index register (R22). -/
  x : Byte
  /-- Y, an index register (R22). -/
  y : Byte
  /-- P, the status register; all eight bits are storage (R25). -/
  p : Byte
  /-- SP, the stack pointer: the stack is the page 0x0100 to 0x01FF (R29). -/
  sp : Byte
  /-- PC, the address of the opcode byte of the next instruction (R24). -/
  pc : Word
  /-- The Address Space (R50). -/
  mem : Memory
  /-- The parameters of R8. They are configuration, not state, in the spec (R34): they stand here so that a claim about
  every state is a claim about every parameter value, and no step changes them (log entry 1). -/
  config : Config
  deriving DecidableEq, Repr

/-- Why the machine stops. -/
inductive Fault where
  /-- `UnsupportedOpcode(pc, op)` of R260 and R261: raised by `step`, and by nothing else, when the byte at PC is
  unmapped; all state is unchanged. Safe: the spec's own one exception, at which the run ends (R263; log entry 16). -/
  | unsupportedOpcode (pc : Word) (op : Byte)
  deriving DecidableEq, Repr

/-- Why an instruction has no meaning. -/
inductive Refusal where
  /-- An instruction of the table with no meaning yet: raised by an arm of `exec` only. Safe: nothing is proved of it.
  No arm raises it now. -/
  | notModelled (mnemonic : String)
  deriving DecidableEq, Repr

/-- What a meaning and a step answer. -/
abbrev Result := Host.Outcome State Fault Refusal

/-- Construction of an instance (R291): the register values of R35, and the memory `INIT_MEM`. -/
def State.construct (cfg : Config) (initMem : Memory) : State where
  a := 0x00
  x := 0x00
  y := 0x00
  p := 0x00
  sp := 0xFF
  pc := cfg.entryPc
  mem := initMem
  config := cfg

/-- The machine right after construction with every parameter at R8's default: memory all 0x00 (R36), so nothing is
listed. -/
def State.reset : State := State.construct Config.default []

end Sys2Proof.Machine
end

