-- ==== Sys2Proof/Machine/Flags.lean ====
section
/-! DEFINITION. The status register's bits (10_state.md rules R25, R26) and the pure functions of the unit `6502_alu`
(40_step_alu_addressing.md rules R114 to R124): bytes and bits in, bytes and bits out. -/

namespace Sys2Proof.Machine

/-! ## The bits of P -/

/-- The position of a flag in P (R25). -/
def Flag.bit : Flag → Nat
  | .c => 0 | .z => 1 | .i => 2 | .d => 3 | .b => 4 | .u => 5 | .v => 6 | .n => 7

/-- The mask of a flag in P (R25). -/
def Flag.mask : Flag → Byte
  | .c => 0x01 | .z => 0x02 | .i => 0x04 | .d => 0x08 | .b => 0x10 | .u => 0x20 | .v => 0x40 | .n => 0x80

/-- One bit of a value of P. -/
def getFlag (p : Byte) (f : Flag) : Bool := p.getLsbD f.bit

/-- A value of P with one bit written and the other seven as they were (R237: a single-bit mask). -/
def putFlag (p : Byte) (f : Flag) (on : Bool) : Byte := if on then p ||| f.mask else p &&& ~~~f.mask

/-- `SetZN(r)` of R114 on a value of P. -/
def putZN (p r : Byte) : Byte := putFlag (putFlag p .z (r == 0)) .n (r.getLsbD 7)

/-- The status byte that PHP and BRK push: bits 4 and 5 forced to 1 (R232, R251). -/
def pushedStatus (p : Byte) : Byte := p ||| 0x30

/-- The status that RTI restores from the pulled byte: bits 4 and 5 cleared (R252; decision D11
of the spec, log entry 10). -/
def restoredStatus (pulled : Byte) : Byte := pulled &&& 0xCF

/-! ## The ALU -/

/-- The outputs of ADD8 and SUB8: result, carry out, signed overflow (R115). -/
structure Sum8 where
  r : Byte
  cout : Bool
  v : Bool
  deriving DecidableEq, Repr

/-- `ADD8(a, m, cin)` of R115: the exact sum, then its low byte, its bit 8, and the signed overflow. -/
def add8 (a m : Byte) (cin : Bool) : Sum8 :=
  let t := a.toNat + m.toNat + cin.toNat
  let r := BitVec.ofNat 8 t
  { r := r, cout := decide (255 < t), v := ((a ^^^ r) &&& (m ^^^ r)).getLsbD 7 }

/-- `SUB8(a, m, cin)` of R116: the sum with the one's complement of the operand (decision D27 of the
spec, log entry 13). -/
def sub8 (a m : Byte) (cin : Bool) : Sum8 := add8 a (m ^^^ 0xFF) cin

/-- `CMP8(reg, m)` of R117: the difference, and whether `reg ≥ m` unsigned (log entry 13). -/
def cmp8 (reg m : Byte) : Byte × Bool := (reg - m, decide (m.toNat ≤ reg.toNat))

/-- `ASL8(v)` of R119. -/
def asl8 (v : Byte) : Byte × Bool := (v <<< 1, v.getLsbD 7)

/-- `LSR8(v)` of R120. -/
def lsr8 (v : Byte) : Byte × Bool := (v >>> 1, v.getLsbD 0)

/-- `ROL8(v, cin)` of R121: the low seven bits move up and the old carry enters bit 0. -/
def rol8 (v : Byte) (cin : Bool) : Byte × Bool := (v.extractLsb' 0 7 ++ BitVec.ofBool cin, v.getLsbD 7)

/-- `ROR8(v, cin)` of R122: the high seven bits move down and the old carry enters bit 7. -/
def ror8 (v : Byte) (cin : Bool) : Byte × Bool := (BitVec.ofBool cin ++ v.extractLsb' 1 7, v.getLsbD 0)

/-- `INC8(v)` of R123. -/
def inc8 (v : Byte) : Byte := v + 1

/-- `DEC8(v)` of R123. -/
def dec8 (v : Byte) : Byte := v - 1

end Sys2Proof.Machine
end

