-- ==== Sys2Proof/Machine/Ops.lean ====
section
/-! DEFINITION. The operations every rule's pseudocode is written in (00_scope.md rule R11): memory, registers, flags,
stack, the software interrupt's entry and return, and the block's one exception. -/

namespace Sys2Proof.Machine

/-! ## Memory -/

/-- What a cell that the list does not hold reads as: memory is zero-filled (R36, R8 `INIT_MEM`; log entry 7). -/
def Memory.unlisted : Byte := 0x00

/-- `Mem[a]` (R51). -/
def Memory.read (m : Memory) (a : Nat) : Byte :=
  match m.find? (fun c => c.1 == a) with
  | some c => c.2
  | none => Memory.unlisted

/-- `Mem[a] <- v`, no other cell changed (R51): the cells below, the cell, the cells above. -/
def Memory.write (m : Memory) (a : Nat) (v : Byte) : Memory :=
  m.filter (fun c => decide (c.1 < a)) ++ (if v = Memory.unlisted then [] else [(a, v)]) ++
    m.filter (fun c => decide (a < c.1))

/-- The canonical form: addresses strictly rising and inside the space of R50, no entry equal to what an unlisted
address reads as. -/
abbrev Memory.wf (m : Memory) : Prop :=
  m.Pairwise (fun c d => c.1 < d.1) ∧ ∀ c ∈ m, c.1 < 65536 ∧ c.2 ≠ Memory.unlisted

/-- `MemRead(addr, 1)` (R51): total, without side effect (R52). -/
def State.readByte (s : State) (addr : Word) : Byte := s.mem.read addr.toNat

/-- `MemRead16`'s two bytes with the address of each given: the low byte at `lo`, the high byte at `hi` (R55). -/
def State.readPointer (s : State) (lo hi : Word) : Word := wordOf (s.readByte hi) (s.readByte lo)

/-! ## Registers: each has one home and is written here -/

def State.setA (s : State) (v : Byte) : State := { s with a := v }
def State.setX (s : State) (v : Byte) : State := { s with x := v }
def State.setY (s : State) (v : Byte) : State := { s with y := v }
def State.setP (s : State) (v : Byte) : State := { s with p := v }
def State.setSp (s : State) (v : Byte) : State := { s with sp := v }
def State.setPc (s : State) (v : Word) : State := { s with pc := v }

/-- `MemWrite(addr, 1, v)` (R51). -/
def State.writeByte (s : State) (addr : Word) (v : Byte) : State := { s with mem := s.mem.write addr.toNat v }

/-- The step's `PC <- PC +_16 len` (R110, R24). -/
def State.advance (s : State) (len : Word) : State := s.setPc (s.pc + len)

/-- One flag of P (R25). -/
def State.flag (s : State) (f : Flag) : Bool := getFlag s.p f

/-- One flag of P written, the other seven bits as they were. -/
def State.putFlag (s : State) (f : Flag) (on : Bool) : State := s.setP (Machine.putFlag s.p f on)

/-- `SetZN(r)` (R114). -/
def State.setZN (s : State) (r : Byte) : State := s.setP (putZN s.p r)

/-! ## The stack -/

/-- The address of the stack cell SP points at: 0x0100 + SP, always in the stack page (R29, R31). -/
def stackAddr (sp : Byte) : Word := wordOf 0x01 sp

/-- `Push(v)` of R29: the write at the cell SP points at, then SP moves down modulo 256. The
order is the decision D5 of the spec (PRESUMED, log entry 8). -/
def State.push (s : State) (v : Byte) : State := (s.writeByte (stackAddr s.sp) v).setSp (s.sp - 1)

/-- `Push` of a 16-bit value as JSR and BRK do it: high byte first, then low byte (R220, R251). The order
is the decision D6 of the spec (PRESUMED, log entry 8). -/
def State.pushWord (s : State) (w : Word) : State := (s.push (hiByte w)).push (loByte w)

/-- SP after a `Pull` (R30): it moves up modulo 256, and no memory cell changes. -/
def State.pulled (s : State) : State := s.setSp (s.sp + 1)

/-- The byte a `Pull` returns: the cell SP points at after it moved (R30). -/
def State.pullByte (s : State) : Byte := s.readByte (stackAddr (s.sp + 1))

/-- The 16-bit value that two `Pull`s return, low byte first (R221, R252). -/
def State.pullWord (s : State) : Word := wordOf s.pulled.pullByte s.pullByte

/-! ## The software interrupt and the exception -/

/-- `BRK_ADVANCE` as a number (R8). -/
def brkLength : BrkAdvance → Word
  | .one => 1
  | .two => 2

/-- Entering the software interrupt (R251, R268, R269): PC + 2 high byte first, then P with bits 4 and 5 set, are pushed;
I is set when `BRK_SETS_I`; no vector is read and execution goes on at PC plus `BRK_ADVANCE`
(decisions D8 to D10 of the spec, log entry 9). -/
def enterInterrupt (s : State) : State :=
  let saved := (s.pushWord (s.pc + 2)).push (pushedStatus s.p)
  let masked := if s.config.brkSetsI then saved.putFlag .i true else saved
  masked.setPc (s.pc + brkLength s.config.brkAdvance)

/-- Returning from it (R252, R270): P with bits 4 and 5 cleared, then PC low byte first; nothing is added to it
(decisions D7 and D11 of the spec, log entry 10). -/
def returnFromInterrupt (s : State) : State :=
  let t := s.pulled
  ((t.pulled.pulled).setP (restoredStatus s.pullByte)).setPc t.pullWord

/-- The report of an unmapped opcode (R260, R261): the address and value of the byte; the state is left as it is
(log entry 16). -/
def unsupportedOpcode (s : State) : Result := .fault (.unsupportedOpcode s.pc (s.readByte s.pc))

end Sys2Proof.Machine
end

