-- ==== Sys2Proof/Machine/Operands.lean ====
section
/-! DEFINITION. The addressing-mode resolver (40_step_alu_addressing.md rules R125 to R139). It reads registers and memory and
writes nothing. PC is the address of the opcode byte. -/

namespace Sys2Proof.Machine

/-- `zext_16` of R9: a byte as an address of the zero page or as an unsigned index. -/
def zext16 (b : Byte) : Word := b.setWidth 16

/-- `sext_16` of R9. -/
def sext16 (b : Byte) : Word := b.signExtend 16

/-- R129, ZP. -/
def eaZp (b : Byte) : Word := zext16 b

/-- R130, ZPX: the index wraps inside the zero page. -/
def eaZpx (b : Byte) (s : State) : Word := zext16 (b + s.x)

/-- R131, ZPY: the index wraps inside the zero page. -/
def eaZpy (b : Byte) (s : State) : Word := zext16 (b + s.y)

/-- R132, ABS. -/
def eaAbs (w : Word) : Word := w

/-- R133, ABX: 16-bit wraparound. -/
def eaAbx (w : Word) (s : State) : Word := w + zext16 s.x

/-- R134, ABY: 16-bit wraparound. -/
def eaAby (w : Word) (s : State) : Word := w + zext16 s.y

/-- The pointer at the zero-page address `p` (R136, R137): the address of its high byte wraps inside the zero page when
`ZP_PTR_WRAP` (decision D15 of the spec, log entry 12). -/
def zeroPagePointer (p : Byte) (s : State) : Word :=
  s.readPointer (zext16 p) (if s.config.zpPtrWrap then zext16 (p + 1) else zext16 p + 1)

/-- R136, IZX: X is added to the operand inside the zero page, to find the pointer. -/
def eaIzx (b : Byte) (s : State) : Word := zeroPagePointer (b + s.x) s

/-- R137, IZY: Y is added to the pointer with 16-bit wraparound (decision D30 of the spec, PRESUMED, log entry 12). -/
def eaIzy (b : Byte) (s : State) : Word := zeroPagePointer b s + zext16 s.y

/-- R135, IND: the pointer at `w`; the address of its high byte stays in the page of `w` when `JMP_IND_PAGE_WRAP`
(decision D16 of the spec, log entry 12). -/
def eaInd (w : Word) (s : State) : Word :=
  s.readPointer w (if s.config.jmpIndPageWrap then wordOf (hiByte w) (loByte w + 1) else w + 1)

/-- R138, REL: the displacement is added to the address after the two-byte branch. -/
def eaRel (d : Byte) (s : State) : Word := s.pc + 2 + sext16 d

/-- R12: an operand location, "either a register reference or a memory address"; its `None` is `Option.none`. -/
inductive Loc where
  | acc
  | mem (ea : Word)
  deriving DecidableEq, Repr

/-- `ReadLoc` of R12. -/
def State.readLoc (s : State) : Loc → Byte
  | .acc => s.a
  | .mem ea => s.readByte ea

/-- `WriteLoc` of R12. -/
def State.writeLoc (s : State) (l : Loc) (v : Byte) : State :=
  match l with
  | .acc => s.setA v
  | .mem ea => s.writeByte ea v

end Sys2Proof.Machine

namespace Sys2Proof

open Machine

/-- `Resolve(mode)` of R125 and R139, all thirteen modes. -/
def Operand.resolve (o : Operand) (s : State) : Option Loc :=
  match o with
  | .imp => none
  | .acc => some .acc
  | .imm _ => some (.mem (s.pc + 1))
  | .zp b => some (.mem (eaZp b))
  | .zpx b => some (.mem (eaZpx b s))
  | .zpy b => some (.mem (eaZpy b s))
  | .abs w => some (.mem (eaAbs w))
  | .abx w => some (.mem (eaAbx w s))
  | .aby w => some (.mem (eaAby w s))
  | .ind w => some (.mem (eaInd w s))
  | .izx b => some (.mem (eaIzx b s))
  | .izy b => some (.mem (eaIzy b s))
  | .rel d => some (.mem (eaRel d s))

/-- The operand byte an instruction of this operand reads. An immediate operand is the instruction's own byte, which the
decoded instruction carries (log entry 3); a jump or branch target is not read (R89). -/
def Operand.value (o : Operand) (s : State) : Option Byte :=
  match o with
  | .imm v => some v
  | .ind _ | .rel _ => none
  | o => (o.resolve s).map s.readLoc

end Sys2Proof
end

