-- ==== Sys2Proof/Machine/Arithmetic.lean ====
section
/-! DEFINITION. Arithmetic, logic, bit test and compare (42_arith_logic_compare.md rules R170 to R180). `m` is the operand
byte and `len` the length of the instruction. P.D is not read: ADC and SBC are binary (R172,
the decision D17 of the spec, log entry 13). -/

namespace Sys2Proof.Machine

/-- The end of ADC and SBC: the result into A, then C, V, Z and N (R171, R173). -/
def putSum (sum : Sum8) (len : Word) (s : State) : Result :=
  .next (((((s.setA sum.r).putFlag .c sum.cout).putFlag .v sum.v).setZN sum.r).advance len)

/-- ADC (R171). -/
def addWithCarry (m : Byte) (len : Word) (s : State) : Result := putSum (add8 s.a m (s.flag .c)) len s

/-- SBC (R173). -/
def subtractWithBorrow (m : Byte) (len : Word) (s : State) : Result := putSum (sub8 s.a m (s.flag .c)) len s

/-- AND (R174): A and the operand; Z and N from the result, as a load of A does. -/
def andByte (m : Byte) (len : Word) (s : State) : Result := .next (((s.setA (s.a &&& m)).setZN (s.a &&& m)).advance len)

/-- EOR (R175). -/
def eorByte (m : Byte) (len : Word) (s : State) : Result := .next (((s.setA (s.a ^^^ m)).setZN (s.a ^^^ m)).advance len)

/-- ORA (R176). -/
def oraByte (m : Byte) (len : Word) (s : State) : Result := .next (((s.setA (s.a ||| m)).setZN (s.a ||| m)).advance len)

/-- BIT (R177): N and V are bits 7 and 6 of the operand, Z is from the AND; A is kept. -/
def testBits (m : Byte) (len : Word) (s : State) : Result :=
  .next ((((s.putFlag .n (m.getLsbD 7)).putFlag .v (m.getLsbD 6)).putFlag .z (s.a &&& m == 0)).advance len)

/-- CMP, CPX, CPY (R178 to R180) on the register's value `reg`: the flags of the difference, which is not stored. -/
def compareWith (reg m : Byte) (len : Word) (s : State) : Result :=
  .next (((s.putFlag .c (cmp8 reg m).2).setZN (cmp8 reg m).1).advance len)

/-! ADC (R171): add with carry. -/

/-- ADC IMM, opcode 69. -/
def execAdcImm (v : Byte) (s : State) : Result := addWithCarry v 2 s
/-- ADC ZP, opcode 65. -/
def execAdcZp (b : Byte) (s : State) : Result := addWithCarry (s.readByte (eaZp b)) 2 s
/-- ADC ZPX, opcode 75. -/
def execAdcZpx (b : Byte) (s : State) : Result := addWithCarry (s.readByte (eaZpx b s)) 2 s
/-- ADC ABS, opcode 6D. -/
def execAdcAbs (w : Word) (s : State) : Result := addWithCarry (s.readByte (eaAbs w)) 3 s
/-- ADC ABX, opcode 7D. -/
def execAdcAbx (w : Word) (s : State) : Result := addWithCarry (s.readByte (eaAbx w s)) 3 s
/-- ADC ABY, opcode 79. -/
def execAdcAby (w : Word) (s : State) : Result := addWithCarry (s.readByte (eaAby w s)) 3 s
/-- ADC IZX, opcode 61. -/
def execAdcIzx (b : Byte) (s : State) : Result := addWithCarry (s.readByte (eaIzx b s)) 2 s
/-- ADC IZY, opcode 71. -/
def execAdcIzy (b : Byte) (s : State) : Result := addWithCarry (s.readByte (eaIzy b s)) 2 s

/-! SBC (R173): subtract with borrow. -/

/-- SBC IMM, opcode E9. -/
def execSbcImm (v : Byte) (s : State) : Result := subtractWithBorrow v 2 s
/-- SBC ZP, opcode E5. -/
def execSbcZp (b : Byte) (s : State) : Result := subtractWithBorrow (s.readByte (eaZp b)) 2 s
/-- SBC ZPX, opcode F5. -/
def execSbcZpx (b : Byte) (s : State) : Result := subtractWithBorrow (s.readByte (eaZpx b s)) 2 s
/-- SBC ABS, opcode ED. -/
def execSbcAbs (w : Word) (s : State) : Result := subtractWithBorrow (s.readByte (eaAbs w)) 3 s
/-- SBC ABX, opcode FD. -/
def execSbcAbx (w : Word) (s : State) : Result := subtractWithBorrow (s.readByte (eaAbx w s)) 3 s
/-- SBC ABY, opcode F9. -/
def execSbcAby (w : Word) (s : State) : Result := subtractWithBorrow (s.readByte (eaAby w s)) 3 s
/-- SBC IZX, opcode E1. -/
def execSbcIzx (b : Byte) (s : State) : Result := subtractWithBorrow (s.readByte (eaIzx b s)) 2 s
/-- SBC IZY, opcode F1. -/
def execSbcIzy (b : Byte) (s : State) : Result := subtractWithBorrow (s.readByte (eaIzy b s)) 2 s

/-! AND (R174): bitwise and. -/

/-- AND IMM, opcode 29. -/
def execAndImm (v : Byte) (s : State) : Result := andByte v 2 s
/-- AND ZP, opcode 25. -/
def execAndZp (b : Byte) (s : State) : Result := andByte (s.readByte (eaZp b)) 2 s
/-- AND ZPX, opcode 35. -/
def execAndZpx (b : Byte) (s : State) : Result := andByte (s.readByte (eaZpx b s)) 2 s
/-- AND ABS, opcode 2D. -/
def execAndAbs (w : Word) (s : State) : Result := andByte (s.readByte (eaAbs w)) 3 s
/-- AND ABX, opcode 3D. -/
def execAndAbx (w : Word) (s : State) : Result := andByte (s.readByte (eaAbx w s)) 3 s
/-- AND ABY, opcode 39. -/
def execAndAby (w : Word) (s : State) : Result := andByte (s.readByte (eaAby w s)) 3 s
/-- AND IZX, opcode 21. -/
def execAndIzx (b : Byte) (s : State) : Result := andByte (s.readByte (eaIzx b s)) 2 s
/-- AND IZY, opcode 31. -/
def execAndIzy (b : Byte) (s : State) : Result := andByte (s.readByte (eaIzy b s)) 2 s

/-! EOR (R175): bitwise exclusive or. -/

/-- EOR IMM, opcode 49. -/
def execEorImm (v : Byte) (s : State) : Result := eorByte v 2 s
/-- EOR ZP, opcode 45. -/
def execEorZp (b : Byte) (s : State) : Result := eorByte (s.readByte (eaZp b)) 2 s
/-- EOR ZPX, opcode 55. -/
def execEorZpx (b : Byte) (s : State) : Result := eorByte (s.readByte (eaZpx b s)) 2 s
/-- EOR ABS, opcode 4D. -/
def execEorAbs (w : Word) (s : State) : Result := eorByte (s.readByte (eaAbs w)) 3 s
/-- EOR ABX, opcode 5D. -/
def execEorAbx (w : Word) (s : State) : Result := eorByte (s.readByte (eaAbx w s)) 3 s
/-- EOR ABY, opcode 59. -/
def execEorAby (w : Word) (s : State) : Result := eorByte (s.readByte (eaAby w s)) 3 s
/-- EOR IZX, opcode 41. -/
def execEorIzx (b : Byte) (s : State) : Result := eorByte (s.readByte (eaIzx b s)) 2 s
/-- EOR IZY, opcode 51. -/
def execEorIzy (b : Byte) (s : State) : Result := eorByte (s.readByte (eaIzy b s)) 2 s

/-! ORA (R176): bitwise inclusive or. -/

/-- ORA IMM, opcode 09. -/
def execOraImm (v : Byte) (s : State) : Result := oraByte v 2 s
/-- ORA ZP, opcode 05. -/
def execOraZp (b : Byte) (s : State) : Result := oraByte (s.readByte (eaZp b)) 2 s
/-- ORA ZPX, opcode 15. -/
def execOraZpx (b : Byte) (s : State) : Result := oraByte (s.readByte (eaZpx b s)) 2 s
/-- ORA ABS, opcode 0D. -/
def execOraAbs (w : Word) (s : State) : Result := oraByte (s.readByte (eaAbs w)) 3 s
/-- ORA ABX, opcode 1D. -/
def execOraAbx (w : Word) (s : State) : Result := oraByte (s.readByte (eaAbx w s)) 3 s
/-- ORA ABY, opcode 19. -/
def execOraAby (w : Word) (s : State) : Result := oraByte (s.readByte (eaAby w s)) 3 s
/-- ORA IZX, opcode 01. -/
def execOraIzx (b : Byte) (s : State) : Result := oraByte (s.readByte (eaIzx b s)) 2 s
/-- ORA IZY, opcode 11. -/
def execOraIzy (b : Byte) (s : State) : Result := oraByte (s.readByte (eaIzy b s)) 2 s

/-! BIT (R177): bit test. -/

/-- BIT ZP, opcode 24. -/
def execBitZp (b : Byte) (s : State) : Result := testBits (s.readByte (eaZp b)) 2 s
/-- BIT ABS, opcode 2C. -/
def execBitAbs (w : Word) (s : State) : Result := testBits (s.readByte (eaAbs w)) 3 s

/-! CMP (R178): compare with A. -/

/-- CMP IMM, opcode C9. -/
def execCmpImm (v : Byte) (s : State) : Result := compareWith s.a v 2 s
/-- CMP ZP, opcode C5. -/
def execCmpZp (b : Byte) (s : State) : Result := compareWith s.a (s.readByte (eaZp b)) 2 s
/-- CMP ZPX, opcode D5. -/
def execCmpZpx (b : Byte) (s : State) : Result := compareWith s.a (s.readByte (eaZpx b s)) 2 s
/-- CMP ABS, opcode CD. -/
def execCmpAbs (w : Word) (s : State) : Result := compareWith s.a (s.readByte (eaAbs w)) 3 s
/-- CMP ABX, opcode DD. -/
def execCmpAbx (w : Word) (s : State) : Result := compareWith s.a (s.readByte (eaAbx w s)) 3 s
/-- CMP ABY, opcode D9. -/
def execCmpAby (w : Word) (s : State) : Result := compareWith s.a (s.readByte (eaAby w s)) 3 s
/-- CMP IZX, opcode C1. -/
def execCmpIzx (b : Byte) (s : State) : Result := compareWith s.a (s.readByte (eaIzx b s)) 2 s
/-- CMP IZY, opcode D1. -/
def execCmpIzy (b : Byte) (s : State) : Result := compareWith s.a (s.readByte (eaIzy b s)) 2 s

/-! CPX (R179): compare with X. -/

/-- CPX IMM, opcode E0. -/
def execCpxImm (v : Byte) (s : State) : Result := compareWith s.x v 2 s
/-- CPX ZP, opcode E4. -/
def execCpxZp (b : Byte) (s : State) : Result := compareWith s.x (s.readByte (eaZp b)) 2 s
/-- CPX ABS, opcode EC. -/
def execCpxAbs (w : Word) (s : State) : Result := compareWith s.x (s.readByte (eaAbs w)) 3 s

/-! CPY (R180): compare with Y. -/

/-- CPY IMM, opcode C0. -/
def execCpyImm (v : Byte) (s : State) : Result := compareWith s.y v 2 s
/-- CPY ZP, opcode C4. -/
def execCpyZp (b : Byte) (s : State) : Result := compareWith s.y (s.readByte (eaZp b)) 2 s
/-- CPY ABS, opcode CC. -/
def execCpyAbs (w : Word) (s : State) : Result := compareWith s.y (s.readByte (eaAbs w)) 3 s

end Sys2Proof.Machine
end

