-- ==== Sys2Proof/Machine/Control.lean ====
section
/-! DEFINITION. Branches, jumps, subroutine call and return (44_control_transfer.md rules R210 to R223). Each assigns PC itself
(R111). -/

namespace Sys2Proof.Machine

/-- R210: to the target when the condition holds, else to the next instruction; nothing but PC changes. Which
flag each branch tests is the decision D26 of the spec (PRESUMED, log entry 15). -/
def branch (taken : Bool) (d : Byte) (s : State) : Result := .next (s.setPc (if taken then eaRel d s else s.pc + 2))

/-- JMP (R219): memory at the target is not read. -/
def jumpTo (ea : Word) (s : State) : Result := .next (s.setPc ea)

/-- JSR (R220): the address of the call's own last byte is pushed; the target was formed before the pushes (R64;
decision D22 of the spec, log entry 14). -/
def callSubroutine (ea : Word) (s : State) : Result := .next ((s.pushWord (s.pc + 2)).setPc ea)

/-- RTS (R221): the pulled address plus one. -/
def returnFromSubroutine (s : State) : Result := .next (s.pulled.pulled.setPc (s.pullWord + 1))

/-! BCC (R211): taken when C = 0. -/

/-- BCC REL, opcode 90. -/
def execBcc (d : Byte) (s : State) : Result := branch (!s.flag .c) d s

/-! BCS (R212): taken when C = 1. -/

/-- BCS REL, opcode B0. -/
def execBcs (d : Byte) (s : State) : Result := branch (s.flag .c) d s

/-! BEQ (R213): taken when Z = 1. -/

/-- BEQ REL, opcode F0. -/
def execBeq (d : Byte) (s : State) : Result := branch (s.flag .z) d s

/-! BNE (R214): taken when Z = 0. -/

/-- BNE REL, opcode D0. -/
def execBne (d : Byte) (s : State) : Result := branch (!s.flag .z) d s

/-! BMI (R215): taken when N = 1. -/

/-- BMI REL, opcode 30. -/
def execBmi (d : Byte) (s : State) : Result := branch (s.flag .n) d s

/-! BPL (R216): taken when N = 0. -/

/-- BPL REL, opcode 10. -/
def execBpl (d : Byte) (s : State) : Result := branch (!s.flag .n) d s

/-! BVC (R217): taken when V = 0. -/

/-- BVC REL, opcode 50. -/
def execBvc (d : Byte) (s : State) : Result := branch (!s.flag .v) d s

/-! BVS (R218): taken when V = 1. -/

/-- BVS REL, opcode 70. -/
def execBvs (d : Byte) (s : State) : Result := branch (s.flag .v) d s

/-! JMP (R219): jump. -/

/-- JMP ABS, opcode 4C. -/
def execJmpAbs (w : Word) (s : State) : Result := jumpTo (eaAbs w) s
/-- JMP IND, opcode 6C. -/
def execJmpInd (w : Word) (s : State) : Result := jumpTo (eaInd w s) s

/-! JSR (R220): jump to subroutine. -/

/-- JSR ABS, opcode 20. -/
def execJsr (w : Word) (s : State) : Result := callSubroutine (eaAbs w) s

/-! RTS (R221): return from subroutine. -/

/-- RTS IMP, opcode 60. -/
def execRts (s : State) : Result := returnFromSubroutine s

end Sys2Proof.Machine
end

