-- ==== Sys2Proof/Machine/LoadStore.lean ====
section
/-! DEFINITION. Loads, stores and register transfers (41_load_store_transfer.md rules R150 to R160). `len` is the
length of the instruction, by which the step advances PC (R110). -/

namespace Sys2Proof.Machine

/-- LDA: the byte into A; Z and N from it (R151). -/
def loadA (m : Byte) (len : Word) (s : State) : Result := .next (((s.setA m).setZN m).advance len)

/-- LDX: the byte into X; Z and N from it (R152). -/
def loadX (m : Byte) (len : Word) (s : State) : Result := .next (((s.setX m).setZN m).advance len)

/-- LDY: the byte into Y; Z and N from it (R153). -/
def loadY (m : Byte) (len : Word) (s : State) : Result := .next (((s.setY m).setZN m).advance len)

/-- A store: one byte into memory, no register and no flag (R154 to R156). -/
def storeByte (v : Byte) (ea : Word) (len : Word) (s : State) : Result := .next ((s.writeByte ea v).advance len)

/-- STA (R154). -/
def storeA (ea : Word) (len : Word) (s : State) : Result := storeByte s.a ea len s

/-- STX (R155). -/
def storeX (ea : Word) (len : Word) (s : State) : Result := storeByte s.x ea len s

/-- STY (R156). -/
def storeY (ea : Word) (len : Word) (s : State) : Result := storeByte s.y ea len s

/-! LDA (R151): load A. -/

/-- LDA IMM, opcode A9. -/
def execLdaImm (v : Byte) (s : State) : Result := loadA v 2 s
/-- LDA ZP, opcode A5. -/
def execLdaZp (b : Byte) (s : State) : Result := loadA (s.readByte (eaZp b)) 2 s
/-- LDA ZPX, opcode B5. -/
def execLdaZpx (b : Byte) (s : State) : Result := loadA (s.readByte (eaZpx b s)) 2 s
/-- LDA ABS, opcode AD. -/
def execLdaAbs (w : Word) (s : State) : Result := loadA (s.readByte (eaAbs w)) 3 s
/-- LDA ABX, opcode BD. -/
def execLdaAbx (w : Word) (s : State) : Result := loadA (s.readByte (eaAbx w s)) 3 s
/-- LDA ABY, opcode B9. -/
def execLdaAby (w : Word) (s : State) : Result := loadA (s.readByte (eaAby w s)) 3 s
/-- LDA IZX, opcode A1. -/
def execLdaIzx (b : Byte) (s : State) : Result := loadA (s.readByte (eaIzx b s)) 2 s
/-- LDA IZY, opcode B1. -/
def execLdaIzy (b : Byte) (s : State) : Result := loadA (s.readByte (eaIzy b s)) 2 s

/-! LDX (R152): load X. -/

/-- LDX IMM, opcode A2. -/
def execLdxImm (v : Byte) (s : State) : Result := loadX v 2 s
/-- LDX ZP, opcode A6. -/
def execLdxZp (b : Byte) (s : State) : Result := loadX (s.readByte (eaZp b)) 2 s
/-- LDX ZPY, opcode B6. -/
def execLdxZpy (b : Byte) (s : State) : Result := loadX (s.readByte (eaZpy b s)) 2 s
/-- LDX ABS, opcode AE. -/
def execLdxAbs (w : Word) (s : State) : Result := loadX (s.readByte (eaAbs w)) 3 s
/-- LDX ABY, opcode BE. -/
def execLdxAby (w : Word) (s : State) : Result := loadX (s.readByte (eaAby w s)) 3 s

/-! LDY (R153): load Y. -/

/-- LDY IMM, opcode A0. -/
def execLdyImm (v : Byte) (s : State) : Result := loadY v 2 s
/-- LDY ZP, opcode A4. -/
def execLdyZp (b : Byte) (s : State) : Result := loadY (s.readByte (eaZp b)) 2 s
/-- LDY ZPX, opcode B4. -/
def execLdyZpx (b : Byte) (s : State) : Result := loadY (s.readByte (eaZpx b s)) 2 s
/-- LDY ABS, opcode AC. -/
def execLdyAbs (w : Word) (s : State) : Result := loadY (s.readByte (eaAbs w)) 3 s
/-- LDY ABX, opcode BC. -/
def execLdyAbx (w : Word) (s : State) : Result := loadY (s.readByte (eaAbx w s)) 3 s

/-! STA (R154): store A. -/

/-- STA ZP, opcode 85. -/
def execStaZp (b : Byte) (s : State) : Result := storeA (eaZp b) 2 s
/-- STA ZPX, opcode 95. -/
def execStaZpx (b : Byte) (s : State) : Result := storeA (eaZpx b s) 2 s
/-- STA ABS, opcode 8D. -/
def execStaAbs (w : Word) (s : State) : Result := storeA (eaAbs w) 3 s
/-- STA ABX, opcode 9D. -/
def execStaAbx (w : Word) (s : State) : Result := storeA (eaAbx w s) 3 s
/-- STA ABY, opcode 99. -/
def execStaAby (w : Word) (s : State) : Result := storeA (eaAby w s) 3 s
/-- STA IZX, opcode 81. -/
def execStaIzx (b : Byte) (s : State) : Result := storeA (eaIzx b s) 2 s
/-- STA IZY, opcode 91. -/
def execStaIzy (b : Byte) (s : State) : Result := storeA (eaIzy b s) 2 s

/-! STX (R155): store X. -/

/-- STX ZP, opcode 86. -/
def execStxZp (b : Byte) (s : State) : Result := storeX (eaZp b) 2 s
/-- STX ZPY, opcode 96. -/
def execStxZpy (b : Byte) (s : State) : Result := storeX (eaZpy b s) 2 s
/-- STX ABS, opcode 8E. -/
def execStxAbs (w : Word) (s : State) : Result := storeX (eaAbs w) 3 s

/-! STY (R156): store Y. -/

/-- STY ZP, opcode 84. -/
def execStyZp (b : Byte) (s : State) : Result := storeY (eaZp b) 2 s
/-- STY ZPX, opcode 94. -/
def execStyZpx (b : Byte) (s : State) : Result := storeY (eaZpx b s) 2 s
/-- STY ABS, opcode 8C. -/
def execStyAbs (w : Word) (s : State) : Result := storeY (eaAbs w) 3 s

/-! The four transfers are the decisions D4 and D14 of the spec (PRESUMED, log entry 11). -/

/-! TAX (R157): A into X, Z and N from the byte copied, as a load does. -/

/-- TAX IMP, opcode AA. -/
def execTax (s : State) : Result := loadX s.a 1 s

/-! TAY (R158): A into Y, Z and N from the byte copied, as a load does. -/

/-- TAY IMP, opcode A8. -/
def execTay (s : State) : Result := loadY s.a 1 s

/-! TXA (R159): X into A, Z and N from the byte copied, as a load does. -/

/-- TXA IMP, opcode 8A. -/
def execTxa (s : State) : Result := loadA s.x 1 s

/-! TYA (R160): Y into A, Z and N from the byte copied, as a load does. -/

/-- TYA IMP, opcode 98. -/
def execTya (s : State) : Result := loadA s.y 1 s

end Sys2Proof.Machine
end

