-- ==== Sys2Proof/Machine/Shift.lean ====
section
/-! DEFINITION. Shifts, rotates, increments and decrements (43_shift_incdec.md rules R190 to R200). -/

namespace Sys2Proof.Machine

/-- A shift or rotate at an operand location (R190): read once, the result written once to the same location, C from the
bit shifted out, Z and N from the result. -/
def shiftAt (f : Byte → Byte × Bool) (l : Loc) (len : Word) (s : State) : Result :=
  let out := f (s.readLoc l)
  .next ((((s.writeLoc l out.1).putFlag .c out.2).setZN out.1).advance len)

/-- ASL (R191). -/
def aslAt (l : Loc) (len : Word) (s : State) : Result := shiftAt asl8 l len s

/-- LSR (R192). -/
def lsrAt (l : Loc) (len : Word) (s : State) : Result := shiftAt lsr8 l len s

/-- ROL (R193): the old carry is shifted in. -/
def rolAt (l : Loc) (len : Word) (s : State) : Result := shiftAt (fun v => rol8 v (s.flag .c)) l len s

/-- ROR (R194): the old carry is shifted in. -/
def rorAt (l : Loc) (len : Word) (s : State) : Result := shiftAt (fun v => ror8 v (s.flag .c)) l len s

/-- INC and DEC on memory (R195, R196): read once, written once, Z and N from the result. -/
def stepMemory (f : Byte → Byte) (ea : Word) (len : Word) (s : State) : Result :=
  .next (((s.writeByte ea (f (s.readByte ea))).setZN (f (s.readByte ea))).advance len)

/-- INC (R195). -/
def incrementAt (ea : Word) (len : Word) (s : State) : Result := stepMemory inc8 ea len s

/-- DEC (R196). -/
def decrementAt (ea : Word) (len : Word) (s : State) : Result := stepMemory dec8 ea len s

/-- INX and DEX (R197, R199): the new X; Z and N from it. -/
def stepX (v : Byte) (s : State) : Result := .next (((s.setX v).setZN v).advance 1)

/-- INY and DEY (R198, R200): the new Y; Z and N from it. -/
def stepY (v : Byte) (s : State) : Result := .next (((s.setY v).setZN v).advance 1)

/-! ASL (R191): shift left. -/

/-- ASL ACC, opcode 0A. -/
def execAslAcc (s : State) : Result := aslAt .acc 1 s
/-- ASL ZP, opcode 06. -/
def execAslZp (b : Byte) (s : State) : Result := aslAt (.mem (eaZp b)) 2 s
/-- ASL ZPX, opcode 16. -/
def execAslZpx (b : Byte) (s : State) : Result := aslAt (.mem (eaZpx b s)) 2 s
/-- ASL ABS, opcode 0E. -/
def execAslAbs (w : Word) (s : State) : Result := aslAt (.mem (eaAbs w)) 3 s
/-- ASL ABX, opcode 1E. -/
def execAslAbx (w : Word) (s : State) : Result := aslAt (.mem (eaAbx w s)) 3 s

/-! LSR (R192): logical shift right. -/

/-- LSR ACC, opcode 4A. -/
def execLsrAcc (s : State) : Result := lsrAt .acc 1 s
/-- LSR ZP, opcode 46. -/
def execLsrZp (b : Byte) (s : State) : Result := lsrAt (.mem (eaZp b)) 2 s
/-- LSR ZPX, opcode 56. -/
def execLsrZpx (b : Byte) (s : State) : Result := lsrAt (.mem (eaZpx b s)) 2 s
/-- LSR ABS, opcode 4E. -/
def execLsrAbs (w : Word) (s : State) : Result := lsrAt (.mem (eaAbs w)) 3 s
/-- LSR ABX, opcode 5E. -/
def execLsrAbx (w : Word) (s : State) : Result := lsrAt (.mem (eaAbx w s)) 3 s

/-! ROL (R193): rotate left through carry. -/

/-- ROL ACC, opcode 2A. -/
def execRolAcc (s : State) : Result := rolAt .acc 1 s
/-- ROL ZP, opcode 26. -/
def execRolZp (b : Byte) (s : State) : Result := rolAt (.mem (eaZp b)) 2 s
/-- ROL ZPX, opcode 36. -/
def execRolZpx (b : Byte) (s : State) : Result := rolAt (.mem (eaZpx b s)) 2 s
/-- ROL ABS, opcode 2E. -/
def execRolAbs (w : Word) (s : State) : Result := rolAt (.mem (eaAbs w)) 3 s
/-- ROL ABX, opcode 3E. -/
def execRolAbx (w : Word) (s : State) : Result := rolAt (.mem (eaAbx w s)) 3 s

/-! ROR (R194): rotate right through carry. -/

/-- ROR ACC, opcode 6A. -/
def execRorAcc (s : State) : Result := rorAt .acc 1 s
/-- ROR ZP, opcode 66. -/
def execRorZp (b : Byte) (s : State) : Result := rorAt (.mem (eaZp b)) 2 s
/-- ROR ZPX, opcode 76. -/
def execRorZpx (b : Byte) (s : State) : Result := rorAt (.mem (eaZpx b s)) 2 s
/-- ROR ABS, opcode 6E. -/
def execRorAbs (w : Word) (s : State) : Result := rorAt (.mem (eaAbs w)) 3 s
/-- ROR ABX, opcode 7E. -/
def execRorAbx (w : Word) (s : State) : Result := rorAt (.mem (eaAbx w s)) 3 s

/-! INC (R195): increment memory. -/

/-- INC ZP, opcode E6. -/
def execIncZp (b : Byte) (s : State) : Result := incrementAt (eaZp b) 2 s
/-- INC ZPX, opcode F6. -/
def execIncZpx (b : Byte) (s : State) : Result := incrementAt (eaZpx b s) 2 s
/-- INC ABS, opcode EE. -/
def execIncAbs (w : Word) (s : State) : Result := incrementAt (eaAbs w) 3 s
/-- INC ABX, opcode FE. -/
def execIncAbx (w : Word) (s : State) : Result := incrementAt (eaAbx w s) 3 s

/-! DEC (R196): decrement memory. -/

/-- DEC ZP, opcode C6. -/
def execDecZp (b : Byte) (s : State) : Result := decrementAt (eaZp b) 2 s
/-- DEC ZPX, opcode D6. -/
def execDecZpx (b : Byte) (s : State) : Result := decrementAt (eaZpx b s) 2 s
/-- DEC ABS, opcode CE. -/
def execDecAbs (w : Word) (s : State) : Result := decrementAt (eaAbs w) 3 s
/-- DEC ABX, opcode DE. -/
def execDecAbx (w : Word) (s : State) : Result := decrementAt (eaAbx w s) 3 s

/-! INX (R197): increment X. -/

/-- INX IMP, opcode E8. -/
def execInx (s : State) : Result := stepX (inc8 s.x) s

/-! INY (R198): increment Y. -/

/-- INY IMP, opcode C8. -/
def execIny (s : State) : Result := stepY (inc8 s.y) s

/-! DEX (R199): decrement X. -/

/-- DEX IMP, opcode CA. -/
def execDex (s : State) : Result := stepX (dec8 s.x) s

/-! DEY (R200): decrement Y. -/

/-- DEY IMP, opcode 88. -/
def execDey (s : State) : Result := stepY (dec8 s.y) s

end Sys2Proof.Machine
end

