-- ==== Sys2Proof/Machine/StackFlags.lean ====
section
/-! DEFINITION. Stack operations and flag instructions (45_stack_flags_system.md rules R230 to R246). -/

namespace Sys2Proof.Machine

/-- A flag instruction (R237): one bit of P, nothing else. -/
def writeFlag (f : Flag) (on : Bool) (s : State) : Result := .next ((s.putFlag f on).advance 1)

/-! PHA (R231): push A. -/

/-- PHA IMP, opcode 48. -/
def execPha (s : State) : Result := .next ((s.push s.a).advance 1)

/-! PHP (R232): push P with bits 4 and 5 set in the copy; the register is kept. -/

/-- PHP IMP, opcode 08. -/
def execPhp (s : State) : Result := .next ((s.push (pushedStatus s.p)).advance 1)

/-! PLP (R233): all eight bits of P from the byte pulled, 4 and 5 included (decision D12 of the spec, log entry 10). -/

/-- PLP IMP, opcode 28. -/
def execPlp (s : State) : Result := .next ((s.pulled.setP s.pullByte).advance 1)

/-! PLA (R234): pull A; Z and N from it as a load does. -/

/-- PLA IMP, opcode 68. -/
def execPla (s : State) : Result := .next (((s.pulled.setA s.pullByte).setZN s.pullByte).advance 1)

/-! TXS (R235): X into SP; no flag, no memory (decision D13 of the spec, PRESUMED, log entry 11). -/

/-- TXS IMP, opcode 9A. -/
def execTxs (s : State) : Result := .next ((s.setSp s.x).advance 1)

/-! TSX (R236): SP into X; Z and N from it (decision D13 of the spec, PRESUMED, log entry 11). -/

/-- TSX IMP, opcode BA. -/
def execTsx (s : State) : Result := .next (((s.setX s.sp).setZN s.sp).advance 1)

/-! CLC (R240): C <- 0. -/

/-- CLC IMP, opcode 18. -/
def execClc (s : State) : Result := writeFlag .c false s

/-! SEC (R241): C <- 1. -/

/-- SEC IMP, opcode 38. -/
def execSec (s : State) : Result := writeFlag .c true s

/-! CLI (R242): I <- 0. -/

/-- CLI IMP, opcode 58. -/
def execCli (s : State) : Result := writeFlag .i false s

/-! SEI (R243): I <- 1. -/

/-- SEI IMP, opcode 78. -/
def execSei (s : State) : Result := writeFlag .i true s

/-! CLV (R244): V <- 0. -/

/-- CLV IMP, opcode B8. -/
def execClv (s : State) : Result := writeFlag .v false s

/-! CLD (R245): D <- 0. -/

/-- CLD IMP, opcode D8. -/
def execCld (s : State) : Result := writeFlag .d false s

/-! SED (R246): D <- 1. -/

/-- SED IMP, opcode F8. -/
def execSed (s : State) : Result := writeFlag .d true s

end Sys2Proof.Machine
end

