-- ==== Sys2Proof/Machine/System.lean ====
section
/-! DEFINITION. NOP, BRK and RTI (45_stack_flags_system.md rules R250 to R252). -/

namespace Sys2Proof.Machine

/-! NOP (R250): advances PC only. -/

/-- NOP IMP, opcode EA. -/
def execNop (s : State) : Result := .next (s.advance 1)

/-! BRK (R251): software interrupt entry. -/

/-- BRK IMP, opcode 00. -/
def execBrk (s : State) : Result := .next (enterInterrupt s)

/-! RTI (R252): return from interrupt. -/

/-- RTI IMP, opcode 40. -/
def execRti (s : State) : Result := .next (returnFromInterrupt s)

end Sys2Proof.Machine
end

