-- ==== Sys2Proof/Machine/Fetch.lean ====
section
/-! DEFINITION. Fetching the instruction at PC (40_step_alu_addressing.md rule R110, 30_encoding.md rule R80). -/

namespace Sys2Proof.Machine

/-- The instruction at PC: byte `k` of it is the cell at `PC +_16 k` (R80), so an instruction at 0xFFFF goes on at 0x0000
(R24; decision
D25 of the spec, log entry 14). Reading a byte the instruction does not have cannot be observed (R52). `none` is an unmapped opcode. -/
def fetchInstr (s : State) : Option Instr :=
  decodeWindow s.config (s.readByte s.pc) (s.readByte (s.pc + 1)) (s.readByte (s.pc + 2))

end Sys2Proof.Machine
end

