-- ==== Sys2Proof/Machine/Step.lean ====
section
/-! DEFINITION. One step (40_step_alu_addressing.md rule R110). Every meaning advances or assigns PC itself, so the step adds
nothing to `exec` (log entry 5). -/

namespace Sys2Proof.Machine

/-- `step()` of R110: the instruction at PC runs to completion, or the byte at PC is unmapped and is reported. -/
def step (s : State) : Host.Outcome State Fault Refusal :=
  match fetchInstr s with
  | some i => exec i s
  | none => unsupportedOpcode s

/-- `s` with the three bytes of a table word placed at PC, where the step fetches (log entry 6). -/
def State.withFetchWord (s : State) (nbits w : Nat) : State :=
  ((s.writeByte s.pc (tableByte nbits w 0)).writeByte (s.pc + 1) (tableByte nbits w 1)).writeByte (s.pc + 2)
    (tableByte nbits w 2)

end Sys2Proof.Machine
end

