-- ==== Sys2Proof/Machine/HostOps.lean ====
section
/-! DEFINITION. What the host can do to the block besides `step` (00_scope.md rule R3): `reset()`, `dump(range)`, and, before
the first step, placing a program's bytes in memory (70_reset_and_hazards.md rule R294). -/

namespace Sys2Proof.Machine

/-- `reset()` (R290): the six registers to the values of R35; memory is kept and no vector is read (decision
D20 of the spec, log entry 17). -/
def State.hostReset (s : State) : State :=
  { s with a := 0x00, x := 0x00, y := 0x00, p := 0x00, sp := 0xFF, pc := s.config.entryPc }

/-- What `dump(range)` returns (R275): the bytes of the range and the eight bits of P (decision D34 of the
spec, log entry 17). -/
structure Dump where
  bytes : List Byte
  p : Byte
  deriving DecidableEq, Repr

/-- `dump` of the `count` cells from `first` (R275); addresses wrap (R61). It reads the state and answers no state. -/
def State.dump (s : State) (first : Word) (count : Nat) : Dump where
  bytes := (List.range count).map (fun k => s.readByte (first + BitVec.ofNat 16 k))
  p := s.p

/-- The loader's boundary (R294): bytes copied one by one from a load address, stopping at the end of the file or at the
top of the address space (log entry 18). -/
def Memory.load (m : Memory) (base : Nat) : List Byte → Memory
  | [] => m
  | v :: rest => if base < 65536 then Memory.load (m.write base v) (base + 1) rest else m

end Sys2Proof.Machine
end

