-- ==== Sys2Proof/Safety.lean ====
section
/-! DEFINITION. The terms in which claims about the block are made: what an instruction may change, which mnemonics write
what (10_state.md rules R21, R22, R26, R31), the invariant, and when a run is safe or finished. -/

namespace Sys2Proof.Safety

open Machine

/-! ## Frames -/

/-- The four 8-bit registers other than P. -/
inductive Reg where
  | a | x | y | sp
  deriving DecidableEq, Repr

/-- The value of a register. -/
def reg (s : State) : Reg → Byte
  | .a => s.a
  | .x => s.x
  | .y => s.y
  | .sp => s.sp

/-- Going from `s` to `t` changes no register, flag or memory cell outside the lists, and no parameter; PC may change. -/
structure ChangesOnly (regs : List Reg) (flags : List Flag) (cells : List Word) (s t : State) : Prop where
  regs_kept : ∀ r, r ∉ regs → reg t r = reg s r
  flags_kept : ∀ f, f ∉ flags → t.flag f = s.flag f
  cells_kept : ∀ c, c ∉ cells → t.readByte c = s.readByte c
  config_kept : t.config = s.config

/-- Z and N are those of the result byte `r` (R114). -/
def ZNFrom (r : Byte) (t : State) : Prop := t.flag .z = decide (r = 0) ∧ t.flag .n = r.getLsbD 7

/-- PC has advanced by the length of `i` (R110). -/
def Advanced (i : Instr) (s t : State) : Prop := t.pc = s.pc + BitVec.ofNat 16 i.length

/-- The registers an operand location stands for. -/
def locRegs : Loc → List Reg
  | .acc => [.a]
  | .mem _ => []

/-- The memory cells an operand location stands for. -/
def locCells : Loc → List Word
  | .acc => []
  | .mem ea => [ea]

/-! ## Claims about all forms of a mnemonic -/

/-- The opcode bytes and modes of a mnemonic, as the decoder has them under every configuration, are exactly `forms`. -/
def FormsAre (mn : Mnemonic) (forms : List (Byte × Mode)) : Prop :=
  ∀ (cfg : Config) (op : Byte) (m : Mode),
    (∃ b1 b2 i, decodeWindow cfg op b1 b2 = some i ∧ i.mnemonic = mn ∧ i.mode = m) ↔ (op, m) ∈ forms

/-- Every instruction of mnemonic `mn`, in every state, has an operand byte `m` and answers a next state `t`, PC advanced
by its length, with `effect s m t`. -/
def ReadsOperand (mn : Mnemonic) (effect : State → Byte → State → Prop) : Prop :=
  ∀ (i : Instr) (s : State), i.mnemonic = mn →
    ∃ m t, i.operand.value s = some m ∧ exec i s = .next t ∧ Advanced i s t ∧ effect s m t

/-- Every instruction of mnemonic `mn`, in every state, has an operand location `l` and answers a next state `t`, PC
advanced by its length, with `effect s l t`. -/
def UsesLocation (mn : Mnemonic) (effect : State → Loc → State → Prop) : Prop :=
  ∀ (i : Instr) (s : State), i.mnemonic = mn →
    ∃ l t, i.operand.resolve s = some l ∧ exec i s = .next t ∧ Advanced i s t ∧ effect s l t

/-- Every instruction of mnemonic `mn` answers, in every state, a next state `t` with `effect s t`, PC advanced by its
length. -/
def Completes (mn : Mnemonic) (effect : State → State → Prop) : Prop :=
  ∀ (i : Instr) (s : State), i.mnemonic = mn → ∃ t, exec i s = .next t ∧ Advanced i s t ∧ effect s t

/-- Every instruction of mnemonic `mn` is a branch: in every state it goes to its target when `taken s`, to the next
instruction otherwise, and changes nothing but PC (R210). -/
def Branches (mn : Mnemonic) (taken : State → Bool) : Prop :=
  ∀ (i : Instr) (s : State), i.mnemonic = mn →
    ∃ d, i.operand = .rel d ∧
      exec i s = .next { s with pc := if taken s then s.pc + 2 + d.signExtend 16 else s.pc + 2 }

/-! ## Which mnemonics write what -/

/-- R26, column "written by": the flags a mnemonic can change. -/
def flagsWritten : Mnemonic → List Flag
  | .ADC | .SBC => [.c, .z, .v, .n]
  | .CMP | .CPX | .CPY | .ASL | .LSR | .ROL | .ROR => [.c, .z, .n]
  | .LDA | .LDX | .LDY | .TAX | .TAY | .TXA | .TYA | .TSX | .PLA | .AND | .EOR | .ORA
  | .INC | .DEC | .INX | .INY | .DEX | .DEY => [.z, .n]
  | .BIT => [.z, .v, .n]
  | .CLC | .SEC => [.c]
  | .CLI | .SEI | .BRK => [.i]
  | .CLD | .SED => [.d]
  | .CLV => [.v]
  | .PLP | .RTI => [.c, .z, .i, .d, .b, .u, .v, .n]
  | .STA | .STX | .STY | .TXS | .PHA | .PHP | .NOP | .JMP | .JSR | .RTS
  | .BCC | .BCS | .BEQ | .BNE | .BMI | .BPL | .BVC | .BVS => []

/-- R21, R22, R31 and R190: the registers a mnemonic can change (A by a shift in accumulator mode only). -/
def regsWritten (i : Instr) : List Reg :=
  match i.mnemonic with
  | .ADC | .SBC | .AND | .EOR | .ORA | .LDA | .TXA | .TYA => [.a]
  | .PLA => [.a, .sp]
  | .ASL | .LSR | .ROL | .ROR => if i.mode = .ACC then [.a] else []
  | .LDX | .TAX | .TSX | .INX | .DEX => [.x]
  | .LDY | .TAY | .INY | .DEY => [.y]
  | .PHA | .PHP | .PLP | .JSR | .RTS | .BRK | .RTI | .TXS => [.sp]
  | .STA | .STX | .STY | .CMP | .CPX | .CPY | .BIT | .INC | .DEC | .NOP | .JMP
  | .CLC | .SEC | .CLI | .SEI | .CLV | .CLD | .SED
  | .BCC | .BCS | .BEQ | .BNE | .BMI | .BPL | .BVC | .BVS => []

/-- R59: the memory cells an instruction writes in a state: its operand location for a store or a read-modify-write, the
stack cells for a push. -/
def cellsWritten (i : Instr) (s : State) : List Word :=
  match i.mnemonic with
  | .STA | .STX | .STY | .ASL | .LSR | .ROL | .ROR | .INC | .DEC =>
    match i.operand.resolve s with
    | some l => locCells l
    | none => []
  | .PHA | .PHP => [stackAddr s.sp]
  | .JSR => [stackAddr s.sp, stackAddr (s.sp - 1)]
  | .BRK => [stackAddr s.sp, stackAddr (s.sp - 1), stackAddr (s.sp - 2)]
  | .LDA | .LDX | .LDY | .TAX | .TAY | .TXA | .TYA | .TSX | .TXS | .ADC | .SBC | .AND | .EOR | .ORA | .BIT
  | .CMP | .CPX | .CPY | .INX | .INY | .DEX | .DEY | .PLA | .PLP | .RTS | .RTI | .NOP | .JMP
  | .CLC | .SEC | .CLI | .SEI | .CLV | .CLD | .SED
  | .BCC | .BCS | .BEQ | .BNE | .BMI | .BPL | .BVC | .BVS => []

/-- R111: the mnemonics whose rule assigns PC itself. -/
def setsPc : List Mnemonic :=
  [.JMP, .JSR, .RTS, .RTI, .BCC, .BCS, .BEQ, .BNE, .BMI, .BPL, .BVC, .BVS, .BRK]

/-! ## Relations between states -/

/-- Two states that differ at most in the bits B and U of P (R27). -/
def AgreeExceptBU (s t : State) : Prop := t = { s with p := t.p } ∧ t.p &&& 0xCF = s.p &&& 0xCF

/-- PHA of each byte of a list in turn, A being given the byte before each (the source's property S3). -/
def phaSequence (s : State) : List Byte → Option State
  | [] => some s
  | v :: vs =>
    match exec .pha (s.setA v) with
    | .next t => phaSequence t vs
    | .fault _ => none
    | .refused _ => none

/-- PLA `n` times, with the values A takes. -/
def plaSequence (s : State) : Nat → Option (List Byte × State)
  | 0 => some ([], s)
  | n + 1 =>
    match exec .pla s with
    | .next t => (plaSequence t n).map (fun out => (t.a :: out.1, out.2))
    | .fault _ => none
    | .refused _ => none

/-! ## Runs -/

/-- The invariant of the model: memory is in its canonical form. -/
def Invariant (s : State) : Prop := s.mem.wf

/-- A run of `k` steps is safe when no step of it reports an unmapped opcode (R263, R296). -/
def SafeFor (k : Nat) (s : State) : Prop := ∃ t, Sys2Proof.core.run k s = .next t

/-- R296: with a host-chosen `HALT_PC`, a run is finished when PC equals it before a step (log entry 18). -/
def finished (haltPc : Word) (s : State) : Bool := s.pc == haltPc

end Sys2Proof.Safety
end

