-- ==== Sys2Proof/Certificates/Slice0/Obligations.lean ====
section
/-! DEFINITION. The statements about the model, for the provers. Each names the rule or section of the spec it formalises; where it
rests on a decision of the spec (92_eei_decisions.md) or on a choice of this model, its docstring says so. -/

open Sys2Proof Sys2Proof.Machine Sys2Proof.Safety

/-- (Derived: 30_encoding.md sections 1 to 3.) Under every configuration, for every instruction well-formed under it and
every byte sequence after it, decoding the encoded instruction followed by the sequence gives the instruction and the
sequence: the matrix of R87 and the table of R86 agree and no operand bit is dropped. Opcode values: the decisions D2,
D3 of the spec (log entry 4). -/
def Obligations.DecodeOfEncodeIsInstruction : Prop :=
  ∀ (cfg : Config) (i : Instr) (rest : List Byte), i.wellFormed cfg = true →
    decode cfg (encode i ++ rest) = .instr i rest

/-- (Derived: 30_encoding.md sections 1 to 5.) Under every configuration, bytes that decode to an instruction are its
encoding followed by the bytes left, and the instruction is well-formed: each byte sequence has one meaning. Opcode
values: the decisions D2, D3 of the spec (log entry 4). -/
def Obligations.EncodeOfDecodedIsBytes : Prop :=
  ∀ (cfg : Config) (bytes rest : List Byte) (i : Instr), decode cfg bytes = .instr i rest →
    bytes = encode i ++ rest ∧ i.wellFormed cfg = true

/-- (Derived: 30_encoding.md section 6 (the table of examples).) The thirteen examples of the table of R93, one for each
addressing mode, decode under the default configuration (log entry 2) to the instruction of their row. The opcode
bytes and modes are the decisions D2 and D3 of the spec (PRESUMED, log entry 4). -/
def Obligations.SampleBytesDecode : Prop :=
  decode .default [0x18] = .instr .clc [] ∧
  decode .default [0x0A] = .instr .aslAcc [] ∧
  decode .default [0xA9, 0x10] = .instr (.ldaImm 0x10) [] ∧
  decode .default [0xA5, 0x10] = .instr (.ldaZp 0x10) [] ∧
  decode .default [0xB5, 0x10] = .instr (.ldaZpx 0x10) [] ∧
  decode .default [0xB6, 0x10] = .instr (.ldxZpy 0x10) [] ∧
  decode .default [0xAD, 0x34, 0x12] = .instr (.ldaAbs 0x1234) [] ∧
  decode .default [0xBD, 0x34, 0x12] = .instr (.ldaAbx 0x1234) [] ∧
  decode .default [0xB9, 0x34, 0x12] = .instr (.ldaAby 0x1234) [] ∧
  decode .default [0x6C, 0x34, 0x12] = .instr (.jmpInd 0x1234) [] ∧
  decode .default [0xA1, 0x10] = .instr (.ldaIzx 0x10) [] ∧
  decode .default [0xB1, 0x10] = .instr (.ldaIzy 0x10) [] ∧
  decode .default [0xF0, 0xFE] = .instr (.beq 0xFE) []

/-- (Derived: 30_encoding.md section 4, 92_eei_decisions.md D4, D35.) Under every configuration, a first byte is reported
unmapped, whatever follows it, exactly when it is one of the 105 bytes listed in R90 or, when XFER_PRESENT is false,
one of 0xAA, 0xA8, 0x8A, 0x98 (R88). The list is the decision D35 of the spec (log entry 4), the four transfers its
decision D4 (log entry 11). -/
def Obligations.UnmappedOpcodesAreTheListed : Prop :=
  ∀ (cfg : Config) (op : Byte) (rest : List Byte),
    decode cfg (op :: rest) = .unmapped op ↔
      (op ∈ ([
         0x02, 0x03, 0x04, 0x07, 0x0B, 0x0C, 0x0F,
         0x12, 0x13, 0x14, 0x17, 0x1A, 0x1B, 0x1C, 0x1F,
         0x22, 0x23, 0x27, 0x2B, 0x2F,
         0x32, 0x33, 0x34, 0x37, 0x3A, 0x3B, 0x3C, 0x3F,
         0x42, 0x43, 0x44, 0x47, 0x4B, 0x4F,
         0x52, 0x53, 0x54, 0x57, 0x5A, 0x5B, 0x5C, 0x5F,
         0x62, 0x63, 0x64, 0x67, 0x6B, 0x6F,
         0x72, 0x73, 0x74, 0x77, 0x7A, 0x7B, 0x7C, 0x7F,
         0x80, 0x82, 0x83, 0x87, 0x89, 0x8B, 0x8F,
         0x92, 0x93, 0x97, 0x9B, 0x9C, 0x9E, 0x9F,
         0xA3, 0xA7, 0xAB, 0xAF,
         0xB2, 0xB3, 0xB7, 0xBB, 0xBF,
         0xC2, 0xC3, 0xC7, 0xCB, 0xCF,
         0xD2, 0xD3, 0xD4, 0xD7, 0xDA, 0xDB, 0xDC, 0xDF,
         0xE2, 0xE3, 0xE7, 0xEB, 0xEF,
         0xF2, 0xF3, 0xF4, 0xF7, 0xFA, 0xFB, 0xFC, 0xFF] : List Byte) ∨
       (cfg.xferPresent = false ∧ op ∈ ([0xAA, 0xA8, 0x8A, 0x98] : List Byte)))

/-- (Derived: 40_step_alu_addressing.md section 1.) In every state, if the three cells from PC (addresses modulo 65,536,
the decision D25 of the spec, log entry 14) decode to an instruction i, which is then well-formed, step answers
exactly what exec i answers; the step adds nothing, since every meaning advances or assigns PC itself (log entry 5). -/
def Obligations.StepRunsDecodedInstruction : Prop :=
  ∀ (s : State) (i : Instr) (rest : List Byte),
    decode s.config [s.readByte s.pc, s.readByte (s.pc + 1), s.readByte (s.pc + 2)] = .instr i rest →
      step s = exec i s

/-- (Stated: R113.) Every instruction answers a next state in every state; a step whose byte at PC is mapped answers a
next state; a step never answers a refusal, and its only fault is UnsupportedOpcode. -/
def Obligations.MappedInstructionAlwaysCompletes : Prop :=
  (∀ (i : Instr) (s : State), ∃ t, exec i s = .next t) ∧
  (∀ s : State, decodeOpcode s.config (s.readByte s.pc) ≠ none → ∃ t, step s = .next t) ∧
  (∀ (s : State) (r : Refusal), step s ≠ .refused r) ∧
  (∀ (s : State) (r : Fault), step s = .fault r → ∃ pc op, r = .unsupportedOpcode pc op)

/-- (Derived: 60_exceptions.md section 1, 92_eei_decisions.md D21.) In every state, the step faults with
UnsupportedOpcode(PC, byte at PC) exactly when the byte at PC is unmapped, and 0xFF is unmapped under every
configuration. The pair reported is the decision D21 of the spec. -/
def Obligations.UnmappedOpcodeReportsPcAndByte : Prop :=
  (∀ s : State, step s = .fault (.unsupportedOpcode s.pc (s.readByte s.pc)) ↔
      decodeOpcode s.config (s.readByte s.pc) = none) ∧
  (∀ s : State, s.readByte s.pc = 0xFF → step s = .fault (.unsupportedOpcode s.pc 0xFF))

/-- (Derived: 40_step_alu_addressing.md section 1.) When an instruction answers a next state: PC has advanced by its
length if its mnemonic is not in the list of R111; by BRK_ADVANCE for BRK; and for a branch it is PC + 2 or PC + 2
plus the signed displacement. Where BRK goes on is the decision D8 of the spec (log entry 9), that PC wraps past
0xFFFF its decision D25 (log entry 14). -/
def Obligations.PcAdvancesByLengthUnlessAssigned : Prop :=
  ∀ (i : Instr) (s t : State), exec i s = .next t →
    (i.mnemonic ∉ setsPc → t.pc = s.pc + BitVec.ofNat 16 i.length) ∧
    (i.mnemonic = .BRK → t.pc = s.pc + brkLength s.config.brkAdvance) ∧
    (∀ d, i.operand = .rel d → t.pc = s.pc + 2 ∨ t.pc = s.pc + 2 + d.signExtend 16)

/-- (Derived: 10_state.md section 7, 70_reset_and_hazards.md section 1, 92_eei_decisions.md D18, D19, D20.) Constructing
an instance, and reset() in any state, give A = X = Y = P = 0x00, SP = 0xFF, PC = ENTRY_PC; construction sets memory
to INIT_MEM, reset() keeps it; two resets equal one; the default ENTRY_PC is 0x0000. That reset() keeps memory is the
decision D20 of the spec (DESIGN CHOICE, log entry 17); that the reset state takes the default of ENTRY_PC is log
entry 2. -/
def Obligations.ResetRegistersAreTheStated : Prop :=
  (∀ (cfg : Config) (m : Memory),
      let s := State.construct cfg m
      s.a = 0x00 ∧ s.x = 0x00 ∧ s.y = 0x00 ∧ s.p = 0x00 ∧ s.sp = 0xFF ∧ s.pc = cfg.entryPc ∧ s.mem = m) ∧
  (∀ s : State,
      let t := s.hostReset
      t.a = 0x00 ∧ t.x = 0x00 ∧ t.y = 0x00 ∧ t.p = 0x00 ∧ t.sp = 0xFF ∧ t.pc = s.config.entryPc ∧ t.mem = s.mem ∧
        t.config = s.config ∧ t.hostReset = t) ∧
  State.reset.pc = 0x0000

/-- (Derived: 10_state.md section 7, 00_scope.md section 4.) In the reset state (default INIT_MEM) every one of the 65,536
addresses reads 0x00, and memory is in canonical form. The canonical form is the representation this model chose
(DESIGN CHOICE, log entry 7), and that the reset state takes the default of INIT_MEM is log entry 2. -/
def Obligations.ResetMemoryIsZeroAndCanonical : Prop :=
  (∀ c : Word, State.reset.readByte c = 0x00) ∧ Invariant State.reset

/-- (Derived: 60_exceptions.md section 7, 92_eei_decisions.md D34.) dump of count cells from an address returns count
bytes, the k-th being the cell at that address plus k (modulo 65,536), and the eight bits of P. What dump returns is
the decision D34 of the spec (log entry 17). -/
def Obligations.DumpReadsCellsAndStatus : Prop :=
  ∀ (s : State) (first : Word) (count : Nat),
    (s.dump first count).bytes.length = count ∧
    (∀ k, k < count → (s.dump first count).bytes[k]? = some (s.readByte (first + BitVec.ofNat 16 k))) ∧
    (s.dump first count).p = s.p

/-- (Derived: 10_state.md section 1, 20_memory.md section 1.) From every state whose memory is canonical (addresses
strictly rising, inside the 65,536 cells, no entry equal to what an unlisted cell reads as), a step that answers a
next state answers one whose memory is canonical: equal memories stay equal data. The canonical form is the
representation this model chose (log entry 7). -/
def Obligations.StepKeepsMemoryCanonical : Prop :=
  ∀ s t : State, Invariant s → step s = .next t → Invariant t

/-- (Derived: 10_state.md section 6 (configuration), 00_scope.md section 4.) A step that answers a next state leaves the
configuration record as it was: the parameters do not change during a run. That the record stands in State is the
choice of this model (log entry 1). -/
def Obligations.StepKeepsParameters : Prop :=
  ∀ s t : State, step s = .next t → t.config = s.config

/-- (Stated: R51.) In every state, after MemWrite(c, 1, v) the cell c reads v, every other of the 65,536 cells reads as
before, and no register changes; read and write are total. -/
def Obligations.MemoryWriteSetsOneCell : Prop :=
  ∀ (s : State) (c d : Word) (v : Byte),
    (s.writeByte c v).readByte d = (if d = c then v else s.readByte d) ∧
    ChangesOnly [] [] [c] s (s.writeByte c v) ∧ (s.writeByte c v).pc = s.pc

/-- (Derived: 10_state.md section 5, 92_eei_decisions.md D5.) In every state: the stack cell of SP is the address 256 +
SP, so in 0x0100 to 0x01FF; a push writes that cell only and leaves SP - 1 modulo 256; a pull leaves SP + 1 modulo 256
and returns the cell of the new SP; a pull after a push returns the byte and restores SP. That the write comes before
the decrement is the decision D5 of the spec. -/
def Obligations.PushAndPullUseTheStackPage : Prop :=
  ∀ (s : State) (v : Byte),
    (stackAddr s.sp).toNat = 256 + s.sp.toNat ∧
    (s.push v).readByte (stackAddr s.sp) = v ∧ (s.push v).sp.toNat = (s.sp.toNat + 255) % 256 ∧
    ChangesOnly [.sp] [] [stackAddr s.sp] s (s.push v) ∧
    s.pulled.sp.toNat = (s.sp.toNat + 1) % 256 ∧ s.pullByte = s.readByte (stackAddr s.pulled.sp) ∧
    ChangesOnly [.sp] [] [] s s.pulled ∧
    (s.push v).pullByte = v ∧ (s.push v).pulled.sp = s.sp

/-- (Derived: 95_test_vectors.md S3, 10_state.md section 5.) From every state, for every list of at most 256 bytes: PHA of
each byte in turn, then as many PLA, takes A through the bytes in reverse order and leaves SP at its first value
(property S3 of the spec, which 95_test_vectors.md reads as at most 256; push order D5). -/
def Obligations.StackDisciplineUpTo256 : Prop :=
  ∀ (s : State) (vs : List Byte), vs.length ≤ 256 →
    ∃ t u, phaSequence s vs = some t ∧ plaSequence t vs.length = some (vs.reverse, u) ∧ u.sp = s.sp

/-- (Stated: R151, R152, R153.) For every form of LDA, LDX and LDY (opcodes and modes as listed) and every state, the
instruction answers a next state: the register holds the operand byte, Z and N are those of the byte, PC has advanced
by the length, and no other register, flag or memory cell changes. The opcode bytes and modes are the decisions D2 and
D3 of the spec (log entry 4). -/
def Obligations.LoadsPutOperandInRegister : Prop :=
  FormsAre .LDA [(0xA9, .IMM), (0xA5, .ZP), (0xB5, .ZPX), (0xAD, .ABS), (0xBD, .ABX), (0xB9, .ABY), (0xA1, .IZX), (0xB1, .IZY)] ∧
  FormsAre .LDX [(0xA2, .IMM), (0xA6, .ZP), (0xB6, .ZPY), (0xAE, .ABS), (0xBE, .ABY)] ∧
  FormsAre .LDY [(0xA0, .IMM), (0xA4, .ZP), (0xB4, .ZPX), (0xAC, .ABS), (0xBC, .ABX)] ∧
  ReadsOperand .LDA (fun s m t => t.a = m ∧ ZNFrom m t ∧ ChangesOnly [.a] [.z, .n] [] s t) ∧
  ReadsOperand .LDX (fun s m t => t.x = m ∧ ZNFrom m t ∧ ChangesOnly [.x] [.z, .n] [] s t) ∧
  ReadsOperand .LDY (fun s m t => t.y = m ∧ ZNFrom m t ∧ ChangesOnly [.y] [.z, .n] [] s t)

/-- (Stated: R154, R155, R156.) For every form of STA, STX and STY (opcodes and modes as listed) and every state, the
instruction answers a next state: the cell at the address the operand resolves to holds the register, PC has advanced
by the length, and no register, no flag and no other memory cell changes. The opcode bytes and modes are the decisions
D2 and D3 of the spec (log entry 4). -/
def Obligations.StoresPutRegisterInMemory : Prop :=
  FormsAre .STA [(0x85, .ZP), (0x95, .ZPX), (0x8D, .ABS), (0x9D, .ABX), (0x99, .ABY), (0x81, .IZX), (0x91, .IZY)] ∧
  FormsAre .STX [(0x86, .ZP), (0x96, .ZPY), (0x8E, .ABS)] ∧
  FormsAre .STY [(0x84, .ZP), (0x94, .ZPX), (0x8C, .ABS)] ∧
  UsesLocation .STA (fun s l t => ∃ ea, l = .mem ea ∧ t.readByte ea = s.a ∧ ChangesOnly [] [] [ea] s t) ∧
  UsesLocation .STX (fun s l t => ∃ ea, l = .mem ea ∧ t.readByte ea = s.x ∧ ChangesOnly [] [] [ea] s t) ∧
  UsesLocation .STY (fun s l t => ∃ ea, l = .mem ea ∧ t.readByte ea = s.y ∧ ChangesOnly [] [] [ea] s t)

/-- (Derived: 41_load_store_transfer.md (register transfers), 92_eei_decisions.md D4, D14.) The four opcodes decode to the
transfers when XFER_PRESENT and are unmapped otherwise; in every state each transfer answers a next state with the
destination equal to the source, Z and N of the byte, PC + 1, nothing else changed. The four instructions are the
decisions D4 and D14 of the spec. -/
def Obligations.TransfersCopyAndSetZN : Prop :=
  (∀ (cfg : Config) (b1 b2 : Byte),
      decodeWindow cfg 0xAA b1 b2 = (if cfg.xferPresent then some .tax else none) ∧
      decodeWindow cfg 0xA8 b1 b2 = (if cfg.xferPresent then some .tay else none) ∧
      decodeWindow cfg 0x8A b1 b2 = (if cfg.xferPresent then some .txa else none) ∧
      decodeWindow cfg 0x98 b1 b2 = (if cfg.xferPresent then some .tya else none)) ∧
  Completes .TAX (fun s t => t.x = s.a ∧ ZNFrom s.a t ∧ ChangesOnly [.x] [.z, .n] [] s t) ∧
  Completes .TAY (fun s t => t.y = s.a ∧ ZNFrom s.a t ∧ ChangesOnly [.y] [.z, .n] [] s t) ∧
  Completes .TXA (fun s t => t.a = s.x ∧ ZNFrom s.x t ∧ ChangesOnly [.a] [.z, .n] [] s t) ∧
  Completes .TYA (fun s t => t.a = s.y ∧ ZNFrom s.y t ∧ ChangesOnly [.a] [.z, .n] [] s t)

/-- (Derived: 41_load_store_transfer.md (a law of the family), 95_test_vectors.md S2.) For every form of STA and of LDA
and every state: when, after the STA, the LDA reads the address the STA stored to, the LDA leaves A equal to the A
that was stored (property S2; the LDA is given as an instruction, so a store over its own bytes is not in question). -/
def Obligations.StoreThenLoadGivesTheValue : Prop :=
  ∀ (i j : Instr) (s : State) (ea : Word), i.mnemonic = .STA → i.operand.resolve s = some (.mem ea) →
    j.mnemonic = .LDA → j.mode ≠ .IMM →
    ∃ t, exec i s = .next t ∧
      (j.operand.resolve t = some (.mem ea) → ∃ u, exec j t = .next u ∧ u.a = s.a)

/-- (Stated: R171.) For every form of ADC (opcodes and modes as listed) and every state, with M the operand byte: A
becomes A + M + C modulo 256; C = 1 iff the sum exceeds 255; V = 1 iff the signed sum is outside -128 to 127; Z and N
are of the result; PC advances; nothing else changes. The opcode bytes and modes are the decisions D2 and D3 of the
spec (log entry 4). -/
def Obligations.AddWithCarryIsExactSum : Prop :=
  FormsAre .ADC [(0x69, .IMM), (0x65, .ZP), (0x75, .ZPX), (0x6D, .ABS), (0x7D, .ABX), (0x79, .ABY), (0x61, .IZX), (0x71, .IZY)] ∧
  ReadsOperand .ADC (fun s m t =>
    let sum := s.a.toNat + m.toNat + (s.flag .c).toNat
    let signed := s.a.toInt + m.toInt + ((s.flag .c).toNat : Int)
    t.a.toNat = sum % 256 ∧ (t.flag .c = true ↔ 255 < sum) ∧ (t.flag .v = true ↔ signed < -128 ∨ 127 < signed) ∧
      ZNFrom t.a t ∧ ChangesOnly [.a] [.c, .z, .v, .n] [] s t)

/-- (Derived: 42_arith_logic_compare.md (arithmetic), 40_step_alu_addressing.md section 2, 92_eei_decisions.md D27.) For
every form of SBC (opcodes and modes as listed) and every state, with M the operand byte: A becomes A - M - (1 - C)
modulo 256; C = 1 iff A >= M + (1 - C); V = 1 iff the signed difference is outside -128 to 127; Z and N are of the
result; PC advances; nothing else changes. The formula, C and V are the decision D27 of the spec (DESIGN CHOICE, log
entry 13). The opcode bytes and modes are the decisions D2 and D3 of the spec (log entry 4). -/
def Obligations.SubtractWithBorrowIsExactDifference : Prop :=
  FormsAre .SBC [(0xE9, .IMM), (0xE5, .ZP), (0xF5, .ZPX), (0xED, .ABS), (0xFD, .ABX), (0xF9, .ABY), (0xE1, .IZX), (0xF1, .IZY)] ∧
  ReadsOperand .SBC (fun s m t =>
    let borrow := 1 - (s.flag .c).toNat
    let signed := s.a.toInt - m.toInt - (borrow : Int)
    (t.a.toNat : Int) = ((s.a.toNat : Int) - (m.toNat : Int) - (borrow : Int)) % 256 ∧
      (t.flag .c = true ↔ m.toNat + borrow ≤ s.a.toNat) ∧ (t.flag .v = true ↔ signed < -128 ∨ 127 < signed) ∧
      ZNFrom t.a t ∧ ChangesOnly [.a] [.c, .z, .v, .n] [] s t)

/-- (Derived: 42_arith_logic_compare.md (arithmetic), 92_eei_decisions.md D17.) For every form of ADC and SBC, every state
and either value written into D: the instruction answers the next state it answers without that, but for D itself: the
D flag has no effect on arithmetic (the decision D17 of the spec). -/
def Obligations.DecimalFlagDoesNotChangeArithmetic : Prop :=
  ∀ (i : Instr) (s : State) (on : Bool), i.mnemonic = .ADC ∨ i.mnemonic = .SBC →
    ∃ t, exec i s = .next t ∧ exec i (s.putFlag .d on) = .next (t.putFlag .d on)

/-- (Stated: R174, R175, R176.) For every form of AND, EOR and ORA (opcodes and modes as listed) and every state, A
becomes the bitwise and, exclusive or, inclusive or of A and the operand byte; Z and N are of the result; PC advances;
nothing else changes. The opcode bytes and modes are the decisions D2 and D3 of the spec (log entry 4). -/
def Obligations.LogicCombinesBitwise : Prop :=
  FormsAre .AND [(0x29, .IMM), (0x25, .ZP), (0x35, .ZPX), (0x2D, .ABS), (0x3D, .ABX), (0x39, .ABY), (0x21, .IZX), (0x31, .IZY)] ∧
  FormsAre .EOR [(0x49, .IMM), (0x45, .ZP), (0x55, .ZPX), (0x4D, .ABS), (0x5D, .ABX), (0x59, .ABY), (0x41, .IZX), (0x51, .IZY)] ∧
  FormsAre .ORA [(0x09, .IMM), (0x05, .ZP), (0x15, .ZPX), (0x0D, .ABS), (0x1D, .ABX), (0x19, .ABY), (0x01, .IZX), (0x11, .IZY)] ∧
  ReadsOperand .AND (fun s m t => t.a = s.a &&& m ∧ ZNFrom t.a t ∧ ChangesOnly [.a] [.z, .n] [] s t) ∧
  ReadsOperand .EOR (fun s m t => t.a = s.a ^^^ m ∧ ZNFrom t.a t ∧ ChangesOnly [.a] [.z, .n] [] s t) ∧
  ReadsOperand .ORA (fun s m t => t.a = s.a ||| m ∧ ZNFrom t.a t ∧ ChangesOnly [.a] [.z, .n] [] s t)

/-- (Stated: R177.) For both forms of BIT and every state: N and V copy bits 7 and 6 of the operand byte whatever A is, Z
= 1 iff A AND the operand is 0; PC advances; no register, no other flag and no memory cell changes. The opcode bytes
and modes are the decisions D2 and D3 of the spec (log entry 4). -/
def Obligations.BitTestsOperandBits : Prop :=
  FormsAre .BIT [(0x24, .ZP), (0x2C, .ABS)] ∧
  ReadsOperand .BIT (fun s m t => t.flag .n = m.getLsbD 7 ∧ t.flag .v = m.getLsbD 6 ∧
    (t.flag .z = true ↔ s.a &&& m = 0) ∧ ChangesOnly [] [.z, .v, .n] [] s t)

/-- (Derived: 42_arith_logic_compare.md (compare), 90_conflicts.md C5, 92_eei_decisions.md D28.) For every form of CMP,
CPX and CPY (opcodes and modes as listed) and every state, with R the register the mnemonic names and M the operand
byte: C = 1 iff R >= M unsigned, Z = 1 iff R = M, N is bit 7 of R - M modulo 256; PC advances; nothing else changes.
N, the register by mnemonic and that V and the register are kept are the decision D28 of the spec (DESIGN CHOICE, log
entry 13). The opcode bytes and modes are the decisions D2 and D3 of the spec (log entry 4). -/
def Obligations.ComparesSetFlagsOfDifference : Prop :=
  FormsAre .CMP [(0xC9, .IMM), (0xC5, .ZP), (0xD5, .ZPX), (0xCD, .ABS), (0xDD, .ABX), (0xD9, .ABY), (0xC1, .IZX), (0xD1, .IZY)] ∧
  FormsAre .CPX [(0xE0, .IMM), (0xE4, .ZP), (0xEC, .ABS)] ∧
  FormsAre .CPY [(0xC0, .IMM), (0xC4, .ZP), (0xCC, .ABS)] ∧
  ReadsOperand .CMP (fun s m t => (t.flag .c = true ↔ m.toNat ≤ s.a.toNat) ∧ (t.flag .z = true ↔ s.a = m) ∧
    t.flag .n = (s.a - m).getLsbD 7 ∧ ChangesOnly [] [.c, .z, .n] [] s t) ∧
  ReadsOperand .CPX (fun s m t => (t.flag .c = true ↔ m.toNat ≤ s.x.toNat) ∧ (t.flag .z = true ↔ s.x = m) ∧
    t.flag .n = (s.x - m).getLsbD 7 ∧ ChangesOnly [] [.c, .z, .n] [] s t) ∧
  ReadsOperand .CPY (fun s m t => (t.flag .c = true ↔ m.toNat ≤ s.y.toNat) ∧ (t.flag .z = true ↔ s.y = m) ∧
    t.flag .n = (s.y - m).getLsbD 7 ∧ ChangesOnly [] [.c, .z, .n] [] s t)

/-- (Stated: R191, R192.) For every form of ASL and LSR (opcodes and modes as listed) and every state, at the operand
location (A in accumulator mode, else the cell the operand resolves to): ASL moves every bit up by one with 0 entering
bit 0 and C taking the old bit 7, LSR moves every bit down by one with 0 entering bit 7, C taking the old bit 0 and N
cleared; Z and N are of the result; PC advances; nothing else changes. The opcode bytes and modes are the decisions D2
and D3 of the spec (log entry 4). -/
def Obligations.ShiftsMoveOneBit : Prop :=
  FormsAre .ASL [(0x0A, .ACC), (0x06, .ZP), (0x16, .ZPX), (0x0E, .ABS), (0x1E, .ABX)] ∧
  FormsAre .LSR [(0x4A, .ACC), (0x46, .ZP), (0x56, .ZPX), (0x4E, .ABS), (0x5E, .ABX)] ∧
  UsesLocation .ASL (fun s l t =>
    (t.readLoc l).getLsbD 0 = false ∧
      (∀ k, k < 7 → (t.readLoc l).getLsbD (k + 1) = (s.readLoc l).getLsbD k) ∧
      t.flag .c = (s.readLoc l).getLsbD 7 ∧ ZNFrom (t.readLoc l) t ∧
      ChangesOnly (locRegs l) [.c, .z, .n] (locCells l) s t) ∧
  UsesLocation .LSR (fun s l t =>
    (t.readLoc l).getLsbD 7 = false ∧
      (∀ k, k < 7 → (t.readLoc l).getLsbD k = (s.readLoc l).getLsbD (k + 1)) ∧
      t.flag .c = (s.readLoc l).getLsbD 0 ∧ ZNFrom (t.readLoc l) t ∧ t.flag .n = false ∧
      ChangesOnly (locRegs l) [.c, .z, .n] (locCells l) s t)

/-- (Stated: R193, R194.) For every form of ROL and ROR (opcodes and modes as listed) and every state, at the operand
location: ROL moves every bit up by one with the old C entering bit 0 and C taking the old bit 7; ROR moves every bit
down by one with the old C entering bit 7 (so N = old C) and C taking the old bit 0; Z and N are of the result; PC
advances; nothing else changes. Nine rotates left of a byte and a carry restore both. The opcode bytes and modes are
the decisions D2 and D3 of the spec (log entry 4). -/
def Obligations.RotatesMoveThroughCarry : Prop :=
  FormsAre .ROL [(0x2A, .ACC), (0x26, .ZP), (0x36, .ZPX), (0x2E, .ABS), (0x3E, .ABX)] ∧
  FormsAre .ROR [(0x6A, .ACC), (0x66, .ZP), (0x76, .ZPX), (0x6E, .ABS), (0x7E, .ABX)] ∧
  UsesLocation .ROL (fun s l t =>
    (t.readLoc l).getLsbD 0 = s.flag .c ∧
      (∀ k, k < 7 → (t.readLoc l).getLsbD (k + 1) = (s.readLoc l).getLsbD k) ∧
      t.flag .c = (s.readLoc l).getLsbD 7 ∧ ZNFrom (t.readLoc l) t ∧
      ChangesOnly (locRegs l) [.c, .z, .n] (locCells l) s t) ∧
  UsesLocation .ROR (fun s l t =>
    (t.readLoc l).getLsbD 7 = s.flag .c ∧
      (∀ k, k < 7 → (t.readLoc l).getLsbD k = (s.readLoc l).getLsbD (k + 1)) ∧
      t.flag .c = (s.readLoc l).getLsbD 0 ∧ ZNFrom (t.readLoc l) t ∧ t.flag .n = s.flag .c ∧
      ChangesOnly (locRegs l) [.c, .z, .n] (locCells l) s t) ∧
  (∀ (v : Byte) (c : Bool), (fun out : Byte × Bool => rol8 out.1 out.2)^[9] (v, c) = (v, c))

/-- (Stated: R195, R196.) For every form of INC and DEC (opcodes and modes as listed) and every state, the cell the
operand resolves to changes by one modulo 256; Z and N are of the result; PC advances; no register, no other flag and
no other cell changes. The opcode bytes and modes are the decisions D2 and D3 of the spec (log entry 4). -/
def Obligations.MemoryIncrementAndDecrement : Prop :=
  FormsAre .INC [(0xE6, .ZP), (0xF6, .ZPX), (0xEE, .ABS), (0xFE, .ABX)] ∧
  FormsAre .DEC [(0xC6, .ZP), (0xD6, .ZPX), (0xCE, .ABS), (0xDE, .ABX)] ∧
  UsesLocation .INC (fun s l t => ∃ ea, l = .mem ea ∧ (t.readByte ea).toNat = ((s.readByte ea).toNat + 1) % 256 ∧
    ZNFrom (t.readByte ea) t ∧ ChangesOnly [] [.z, .n] [ea] s t) ∧
  UsesLocation .DEC (fun s l t => ∃ ea, l = .mem ea ∧ (t.readByte ea).toNat = ((s.readByte ea).toNat + 255) % 256 ∧
    ZNFrom (t.readByte ea) t ∧ ChangesOnly [] [.z, .n] [ea] s t)

/-- (Stated: R197, R198, R199, R200.) In every state INX, INY, DEX and DEY answer a next state: X or Y changed by one
modulo 256, Z and N of the result, PC + 1, nothing else changed. The opcode bytes and modes are the decisions D2 and
D3 of the spec (log entry 4). -/
def Obligations.IndexIncrementAndDecrement : Prop :=
  FormsAre .INX [(0xE8, .IMP)] ∧
  FormsAre .INY [(0xC8, .IMP)] ∧
  FormsAre .DEX [(0xCA, .IMP)] ∧
  FormsAre .DEY [(0x88, .IMP)] ∧
  Completes .INX (fun s t => t.x.toNat = (s.x.toNat + 1) % 256 ∧ ZNFrom t.x t ∧
    ChangesOnly [.x] [.z, .n] [] s t) ∧
  Completes .INY (fun s t => t.y.toNat = (s.y.toNat + 1) % 256 ∧ ZNFrom t.y t ∧
    ChangesOnly [.y] [.z, .n] [] s t) ∧
  Completes .DEX (fun s t => t.x.toNat = (s.x.toNat + 255) % 256 ∧ ZNFrom t.x t ∧
    ChangesOnly [.x] [.z, .n] [] s t) ∧
  Completes .DEY (fun s t => t.y.toNat = (s.y.toNat + 255) % 256 ∧ ZNFrom t.y t ∧
    ChangesOnly [.y] [.z, .n] [] s t)

/-- (Derived: 44_control_transfer.md (branches), 92_eei_decisions.md D26.) In every state each of the eight branches
answers the state with only PC changed: to PC + 2 plus the signed displacement when the flag of the table of R210 has
the value of the table, to PC + 2 otherwise. Flag and sense of the branches but BEQ are the decision D26 of the spec. -/
def Obligations.BranchesTestOneFlag : Prop :=
  FormsAre .BPL [(0x10, .REL)] ∧
  FormsAre .BMI [(0x30, .REL)] ∧
  FormsAre .BVC [(0x50, .REL)] ∧
  FormsAre .BVS [(0x70, .REL)] ∧
  FormsAre .BCC [(0x90, .REL)] ∧
  FormsAre .BCS [(0xB0, .REL)] ∧
  FormsAre .BNE [(0xD0, .REL)] ∧
  FormsAre .BEQ [(0xF0, .REL)] ∧
  Branches .BPL (fun s => !s.flag .n) ∧
  Branches .BMI (fun s => s.flag .n) ∧
  Branches .BVC (fun s => !s.flag .v) ∧
  Branches .BVS (fun s => s.flag .v) ∧
  Branches .BCC (fun s => !s.flag .c) ∧
  Branches .BCS (fun s => s.flag .c) ∧
  Branches .BNE (fun s => !s.flag .z) ∧
  Branches .BEQ (fun s => s.flag .z)

/-- (Stated: R213.) BEQ goes to its target when Z = 1 and to PC + 2 otherwise, changing nothing but PC; a step at the
bytes F0 FE with Z = 1 answers the very same state. The opcode byte is the decision D2 of the spec (log entry 4). -/
def Obligations.BeqTakenWhenZeroSetCanLoopOnItself : Prop :=
  FormsAre .BEQ [(0xF0, .REL)] ∧ Branches .BEQ (fun s => s.flag .z) ∧
  (∀ s : State, s.readByte s.pc = 0xF0 → s.readByte (s.pc + 1) = 0xFE → s.flag .z = true → step s = .next s)

/-- (Stated: R219.) For both forms of JMP (4C ABS, 6C IND) and every state, the instruction answers the state with only PC
changed, to the address the operand resolves to; the absolute form is its operand. The opcode bytes and modes are the
decisions D2 and D3 of the spec (log entry 4). -/
def Obligations.JumpSetsPcOnly : Prop :=
  FormsAre .JMP [(0x4C, .ABS), (0x6C, .IND)] ∧
  (∀ (i : Instr) (s : State), i.mnemonic = .JMP →
    ∃ ea, i.operand.resolve s = some (.mem ea) ∧ exec i s = .next { s with pc := ea }) ∧
  (∀ (w : Word) (s : State), exec (.jmpAbs w) s = .next { s with pc := w })

/-- (Derived: 44_control_transfer.md (jumps), 92_eei_decisions.md D6.) In every state JSR answers a next state: PC is its
16-bit operand, the cell SP pointed at holds the high byte of PC + 2, the next cell down (wrapping in the page) its
low byte, SP is 2 lower modulo 256, and no other register, flag or cell changes. High byte first is the decision D6 of
the spec. -/
def Obligations.JsrPushesLastByteAddress : Prop :=
  FormsAre .JSR [(0x20, .ABS)] ∧
  (∀ (i : Instr) (s : State), i.mnemonic = .JSR →
    ∃ w t, i.operand = .abs w ∧ exec i s = .next t ∧ t.pc = w ∧ t.sp = s.sp - 2 ∧
      t.readByte (stackAddr s.sp) = hiByte (s.pc + 2) ∧ t.readByte (stackAddr (s.sp - 1)) = loByte (s.pc + 2) ∧
      ChangesOnly [.sp] [] [stackAddr s.sp, stackAddr (s.sp - 1)] s t)

/-- (Derived: 44_control_transfer.md (jumps), 92_eei_decisions.md D6, D7.) In every state RTS answers a next state: PC is
the word of the two stack cells above SP (low byte first, wrapping in the page) plus one modulo 65,536, SP is 2 higher
modulo 256, and no other register, no flag and no cell changes. The byte order is the decision D6 of the spec. -/
def Obligations.RtsPullsAddressPlusOne : Prop :=
  FormsAre .RTS [(0x60, .IMP)] ∧
  (∀ (i : Instr) (s : State), i.mnemonic = .RTS →
    ∃ t, exec i s = .next t ∧
      t.pc = wordOf (s.readByte (stackAddr (s.sp + 2))) (s.readByte (stackAddr (s.sp + 1))) + 1 ∧
      t.sp = s.sp + 2 ∧ ChangesOnly [.sp] [] [] s t)

/-- (Derived: 95_test_vectors.md S7, 44_control_transfer.md (jumps).) From every state and for every target, JSR and then
RTS answer a next state with PC three above the JSR, and A, X, Y, SP and P as before the call (property S7). -/
def Obligations.CallThenReturnComesBack : Prop :=
  ∀ (s : State) (w : Word), ∃ t u, exec (.jsr w) s = .next t ∧ exec .rts t = .next u ∧
    u.pc = s.pc + 3 ∧ u.sp = s.sp ∧ u.a = s.a ∧ u.x = s.x ∧ u.y = s.y ∧ u.p = s.p ∧ u.config = s.config

/-- (Derived: 20_memory.md section 7, 92_eei_decisions.md D22.) In every state whose byte at PC is 0x20, the step answers
a next state whose PC is formed from the two bytes after it as they were before the step, wherever the pushes land,
the JSR's own bytes in the stack page included (the decision D22 of the spec). -/
def Obligations.JsrTargetReadBeforePushes : Prop :=
  ∀ s : State, s.readByte s.pc = 0x20 →
    ∃ t, step s = .next t ∧
      t.pc.toNat = (s.readByte (s.pc + 2)).toNat * 256 + (s.readByte (s.pc + 1)).toNat

/-- (Derived: 45_stack_flags_system.md (stack operations), 92_eei_decisions.md D5.) In every state PHA and PHP answer a
next state: the cell SP pointed at holds A, or P OR 0x30; SP is one lower modulo 256; PC + 1; no other register, no
flag and no other cell changes. The push order is the decision D5 of the spec. -/
def Obligations.PhaAndPhpPushOneByte : Prop :=
  FormsAre .PHA [(0x48, .IMP)] ∧
  FormsAre .PHP [(0x08, .IMP)] ∧
  Completes .PHA (fun s t => t.readByte (stackAddr s.sp) = s.a ∧ t.sp = s.sp - 1 ∧
    ChangesOnly [.sp] [] [stackAddr s.sp] s t) ∧
  Completes .PHP (fun s t => t.readByte (stackAddr s.sp) = s.p ||| 0x30 ∧ t.sp = s.sp - 1 ∧
    ChangesOnly [.sp] [] [stackAddr s.sp] s t)

/-- (Derived: 45_stack_flags_system.md (stack operations), 92_eei_decisions.md D5, D12.) In every state PLA and PLP answer
a next state: A, or the whole of P, is the cell above SP (wrapping in the page), SP is one higher modulo 256, PC + 1;
PLA sets Z and N from the byte and keeps the other flags; no other register and no cell changes. That PLP masks
nothing is the decision D12 of the spec. -/
def Obligations.PlaAndPlpPullOneByte : Prop :=
  FormsAre .PLA [(0x68, .IMP)] ∧
  FormsAre .PLP [(0x28, .IMP)] ∧
  Completes .PLA (fun s t => t.a = s.readByte (stackAddr (s.sp + 1)) ∧ ZNFrom t.a t ∧ t.sp = s.sp + 1 ∧
    ChangesOnly [.a, .sp] [.z, .n] [] s t) ∧
  Completes .PLP (fun s t => t.p = s.readByte (stackAddr (s.sp + 1)) ∧ t.sp = s.sp + 1 ∧
    ChangesOnly [.sp] [.c, .z, .i, .d, .b, .u, .v, .n] [] s t)

/-- (Derived: 45_stack_flags_system.md (stack operations), 90_conflicts.md C6, 92_eei_decisions.md D13.) In every state
TXS and TSX answer a next state: SP = X with no flag changed, or X = SP with Z and N of the byte; PC + 1; nothing else
changes. Both are the decision D13 of the spec. -/
def Obligations.StackPointerTransfers : Prop :=
  FormsAre .TXS [(0x9A, .IMP)] ∧
  FormsAre .TSX [(0xBA, .IMP)] ∧
  Completes .TXS (fun s t => t.sp = s.x ∧ ChangesOnly [.sp] [] [] s t) ∧
  Completes .TSX (fun s t => t.x = s.sp ∧ ZNFrom s.sp t ∧ ChangesOnly [.x] [.z, .n] [] s t)

/-- (Stated: R237, R240, R241, R242, R243, R244, R245, R246.) In every state each of the seven flag instructions answers a
next state: P is the old P under the single-bit mask of the table of R237, so the named flag has the value and the
other seven bits are kept; PC + 1; no register and no cell changes. The opcode bytes and modes are the decisions D2
and D3 of the spec (log entry 4). -/
def Obligations.FlagInstructionsWriteOneBit : Prop :=
  FormsAre .CLC [(0x18, .IMP)] ∧
  FormsAre .SEC [(0x38, .IMP)] ∧
  FormsAre .CLI [(0x58, .IMP)] ∧
  FormsAre .SEI [(0x78, .IMP)] ∧
  FormsAre .CLV [(0xB8, .IMP)] ∧
  FormsAre .CLD [(0xD8, .IMP)] ∧
  FormsAre .SED [(0xF8, .IMP)] ∧
  Completes .CLC (fun s t => t.p = s.p &&& 0xFE ∧ t.flag .c = false ∧
    ChangesOnly [] [.c] [] s t) ∧
  Completes .SEC (fun s t => t.p = s.p ||| 0x01 ∧ t.flag .c = true ∧
    ChangesOnly [] [.c] [] s t) ∧
  Completes .CLI (fun s t => t.p = s.p &&& 0xFB ∧ t.flag .i = false ∧
    ChangesOnly [] [.i] [] s t) ∧
  Completes .SEI (fun s t => t.p = s.p ||| 0x04 ∧ t.flag .i = true ∧
    ChangesOnly [] [.i] [] s t) ∧
  Completes .CLV (fun s t => t.p = s.p &&& 0xBF ∧ t.flag .v = false ∧
    ChangesOnly [] [.v] [] s t) ∧
  Completes .CLD (fun s t => t.p = s.p &&& 0xF7 ∧ t.flag .d = false ∧
    ChangesOnly [] [.d] [] s t) ∧
  Completes .SED (fun s t => t.p = s.p ||| 0x08 ∧ t.flag .d = true ∧
    ChangesOnly [] [.d] [] s t)

/-- (Stated: R250.) In every state NOP answers the state with only PC changed, to PC + 1 modulo 65,536; EA is the only
byte that decodes to it (the decision D2 of the spec, log entry 4). -/
def Obligations.NopAdvancesPcOnly : Prop :=
  FormsAre .NOP [(0xEA, .IMP)] ∧
  (∀ (i : Instr) (s : State), i.mnemonic = .NOP → exec i s = .next { s with pc := s.pc + 1 })

/-- (Derived: 45_stack_flags_system.md (NOP, BRK, RTI), 60_exceptions.md section 4, 92_eei_decisions.md D6, D8, D9, D10.)
In every state BRK answers a next state: the stack frame of R269 (high byte of PC + 2, low byte, the old P OR 0x30,
going down and wrapping in the page), SP 3 lower, I set when BRK_SETS_I and else kept, PC advanced by BRK_ADVANCE; no
other register, flag or cell changes and no vector is read. Byte order, continuation, I and B are the decisions D6,
D8, D9, D10 of the spec, two of them parameters over which the statement quantifies. -/
def Obligations.BrkPushesFrameAndContinues : Prop :=
  FormsAre .BRK [(0x00, .IMP)] ∧
  (∀ (i : Instr) (s : State), i.mnemonic = .BRK →
    ∃ t, exec i s = .next t ∧
      t.readByte (stackAddr s.sp) = hiByte (s.pc + 2) ∧ t.readByte (stackAddr (s.sp - 1)) = loByte (s.pc + 2) ∧
      t.readByte (stackAddr (s.sp - 2)) = s.p ||| 0x30 ∧ t.sp = s.sp - 3 ∧
      t.flag .i = (s.config.brkSetsI || s.flag .i) ∧
      (s.config.brkAdvance = .one → t.pc = s.pc + 1) ∧ (s.config.brkAdvance = .two → t.pc = s.pc + 2) ∧
      ChangesOnly [.sp] [.i] [stackAddr s.sp, stackAddr (s.sp - 1), stackAddr (s.sp - 2)] s t)

/-- (Derived: 45_stack_flags_system.md (NOP, BRK, RTI), 60_exceptions.md section 5, 92_eei_decisions.md D7, D11.) In every
state RTI answers a next state: P is the first cell above SP AND 0xCF, PC the word of the next two cells, low byte
first, SP 3 higher modulo 256 (the cells wrap in the page); A, X, Y and memory are kept. The +0 and the mask are the
decisions D7 and D11 of the spec. -/
def Obligations.RtiRestoresStatusAndPc : Prop :=
  FormsAre .RTI [(0x40, .IMP)] ∧
  (∀ (i : Instr) (s : State), i.mnemonic = .RTI →
    ∃ t, exec i s = .next t ∧ t.p = s.readByte (stackAddr (s.sp + 1)) &&& 0xCF ∧
      t.pc = wordOf (s.readByte (stackAddr (s.sp + 3))) (s.readByte (stackAddr (s.sp + 2))) ∧
      t.sp = s.sp + 3 ∧ ChangesOnly [.sp] [.c, .z, .i, .d, .b, .u, .v, .n] [] s t)

/-- (Derived: 60_exceptions.md section 5, 45_stack_flags_system.md (NOP, BRK, RTI), 92_eei_decisions.md D7, D11.) From
every state, BRK and then RTI answer a next state with PC two above the BRK, SP, A, X and Y as before it, and P as
before it but for bits 4 and 5, which are 0: the I flag is the one of before the BRK. That RTI resumes at the pulled
address itself and leaves bits 4 and 5 of P at 0 are the decisions D7 and D11 of the spec (DESIGN CHOICE, log entry
10). -/
def Obligations.BrkThenRtiResumes : Prop :=
  ∀ s : State, ∃ t u, exec .brk s = .next t ∧ exec .rti t = .next u ∧
    u.pc = s.pc + 2 ∧ u.sp = s.sp ∧ u.p = s.p &&& 0xCF ∧ u.flag .i = s.flag .i ∧
    u.a = s.a ∧ u.x = s.x ∧ u.y = s.y ∧ u.config = s.config

/-- (Derived: 45_stack_flags_system.md (stack operations), 92_eei_decisions.md D12.) From every state, PHP and then PLP
answer a next state with P OR 0x30 in P, SP as before and PC + 2 (the decision D12 of the spec). -/
def Obligations.PhpThenPlpSetsBits4And5 : Prop :=
  ∀ s : State, ∃ t u, exec .php s = .next t ∧ exec .plp t = .next u ∧
    u.p = s.p ||| 0x30 ∧ u.sp = s.sp ∧ u.pc = s.pc + 2 ∧ u.a = s.a ∧ u.x = s.x ∧ u.y = s.y

/-- (Stated: R126, R127, R128.) IMP resolves to no location and has length 1. ACC resolves to A, has length 1, is the mode
of ASL, LSR, ROL and ROR only, and executing it leaves memory as it was; an ACC form reads A (from every state, some
other value of A gives another result) and writes A (from every state, some value of A is replaced), and its result is
decided by A and C alone, so by no memory cell. IMM resolves to the address PC + 1, has length 2, its operand value in
a fetched instruction is the byte there, and executing it leaves memory as it was. -/
def Obligations.ImpliedAccumulatorImmediateResolve : Prop :=
  (∀ s : State, Operand.imp.resolve s = none ∧ Operand.acc.resolve s = some .acc ∧
      ∀ v, (Operand.imm v).resolve s = some (.mem (s.pc + 1))) ∧
  (∀ i : Instr, (i.mode = .IMP → i.length = 1) ∧ (i.mode = .ACC → i.length = 1) ∧ (i.mode = .IMM → i.length = 2)) ∧
  (∀ i : Instr, i.mode = .ACC → i.mnemonic ∈ [Mnemonic.ASL, .LSR, .ROL, .ROR]) ∧
  (∀ i : Instr, i.mode = .ACC →
      (∀ s : State, ∃ v t u, exec i s = .next t ∧ exec i (s.setA v) = .next u ∧ u.a ≠ t.a) ∧
      (∀ s : State, ∃ v t, exec i (s.setA v) = .next t ∧ t.a ≠ v) ∧
      (∀ s s' t t' : State, s'.a = s.a → s'.flag .c = s.flag .c →
        exec i s = .next t → exec i s' = .next t' → t'.a = t.a)) ∧
  (∀ (i : Instr) (s t : State), i.mode = .ACC ∨ i.mode = .IMM → exec i s = .next t → t.mem = s.mem) ∧
  (∀ (i : Instr) (s : State) (v : Byte), fetchInstr s = some i → i.operand = .imm v → v = s.readByte (s.pc + 1))

/-- (Stated: R129, R130, R131.) In every state, ZP resolves to the address of its operand byte, ZPX and ZPY to the operand
byte plus X or Y modulo 256, so always to 0x0000 to 0x00FF; the three modes have length 2; ZPY is a mode of LDX and
STX only (mode sets: the decision D3 of the spec, log entry 4). -/
def Obligations.ZeroPageModesStayInZeroPage : Prop :=
  (∀ (b : Byte) (s : State),
      (Operand.zp b).resolve s = some (.mem (BitVec.ofNat 16 b.toNat)) ∧
      (Operand.zpx b).resolve s = some (.mem (BitVec.ofNat 16 ((b.toNat + s.x.toNat) % 256))) ∧
      (Operand.zpy b).resolve s = some (.mem (BitVec.ofNat 16 ((b.toNat + s.y.toNat) % 256)))) ∧
  (∀ i : Instr, i.mode ∈ [Mode.ZP, .ZPX, .ZPY] → i.length = 2) ∧
  (∀ i : Instr, i.mode = .ZPY → i.mnemonic = .LDX ∨ i.mnemonic = .STX)

/-- (Stated: R54, R132, R133, R134.) In every state, an instruction fetched at PC in ABS, ABX, ABY or IND mode has the
operand whose low byte is the cell at PC + 1 and whose high byte is the cell at PC + 2 (addresses modulo 65,536). In
every state ABS resolves to it, ABX and ABY to it plus X or Y modulo 65,536; the modes have length 3. -/
def Obligations.AbsoluteModesLittleEndianAndWrap : Prop :=
  (∀ (s : State) (i : Instr) (w : Word), fetchInstr s = some i →
      i.operand = .abs w ∨ i.operand = .abx w ∨ i.operand = .aby w ∨ i.operand = .ind w →
      w.toNat = (s.readByte (s.pc + 2)).toNat * 256 + (s.readByte (s.pc + 1)).toNat) ∧
  (∀ (w : Word) (s : State),
      (Operand.abs w).resolve s = some (.mem w) ∧
      (Operand.abx w).resolve s = some (.mem (BitVec.ofNat 16 ((w.toNat + s.x.toNat) % 65536))) ∧
      (Operand.aby w).resolve s = some (.mem (BitVec.ofNat 16 ((w.toNat + s.y.toNat) % 65536)))) ∧
  (∀ i : Instr, i.mode ∈ [Mode.ABS, .ABX, .ABY, .IND] → i.length = 3)

/-- (Derived: 40_step_alu_addressing.md section 3, 92_eei_decisions.md D15, D16, D30.) In every state and for both values
of each parameter: IND resolves to the pointer at its operand, the high byte read from the next address, or from the
start of the same page when JMP_IND_PAGE_WRAP and the low byte of the operand is 0xFF; IZX resolves to the pointer at
the operand byte plus X modulo 256; IZY to the pointer at the operand byte, plus Y modulo 65,536; the high byte of a
zero-page pointer at 0x00FF comes from 0x0000 when ZP_PTR_WRAP and from 0x0100 otherwise. IND has length 3 and is a
mode of JMP only; IZX and IZY have length 2. The pointer reads are the decisions D15, D16 and D30 of the spec. -/
def Obligations.IndirectModesReadPointers : Prop :=
  (∀ s : State,
    let cell := fun n : Nat => s.readByte (BitVec.ofNat 16 n)
    let next := fun p : Nat => if s.config.zpPtrWrap then (p + 1) % 256 else p + 1
    (∀ w : Word,
      let p1 := if s.config.jmpIndPageWrap then w.toNat / 256 * 256 + (w.toNat + 1) % 256 else w.toNat + 1
      (Operand.ind w).resolve s = some (.mem (wordOf (cell p1) (cell w.toNat)))) ∧
    (∀ b : Byte,
      let p := (b.toNat + s.x.toNat) % 256
      (Operand.izx b).resolve s = some (.mem (wordOf (cell (next p)) (cell p)))) ∧
    (∀ b : Byte,
      (Operand.izy b).resolve s =
        some (.mem (wordOf (cell (next b.toNat)) (cell b.toNat) + BitVec.ofNat 16 s.y.toNat)))) ∧
  (∀ i : Instr, i.mode = .IND → i.length = 3 ∧ i.mnemonic = .JMP) ∧
  (∀ i : Instr, i.mode ∈ [Mode.IZX, .IZY] → i.length = 2)

/-- (Stated: R138.) In every state, REL resolves to PC + 2 plus the operand byte as a signed number from -128 to 127,
modulo 65,536; the mode has length 2, belongs to the eight branches only, and an instruction of it changes no memory. -/
def Obligations.RelativeTargetIsSignedFromNext : Prop :=
  (∀ (d : Byte) (s : State), ∃ ea, (Operand.rel d).resolve s = some (.mem ea) ∧
      (ea.toNat : Int) = ((s.pc.toNat : Int) + 2 + d.toInt) % 65536) ∧
  (∀ i : Instr, i.mode = .REL → i.length = 2 ∧
      i.mnemonic ∈ [Mnemonic.BCC, .BCS, .BEQ, .BNE, .BMI, .BPL, .BVC, .BVS]) ∧
  (∀ (i : Instr) (s t : State), i.mode = .REL → exec i s = .next t → t.mem = s.mem)

/-- (Derived: 10_state.md section 4.) When an instruction answers a next state, every flag that the column "written by" of
the table of R26 does not list for its mnemonic has the value it had. In particular I and D change by flag
instructions, BRK (I), PLP and RTI only. The rows of the table for BRK, PLP, RTI, TSX and the transfers rest on the
decisions D9 and D11 to D14 of the spec (log entries 9 to 11). -/
def Obligations.FlagsChangeOnlyWhereListed : Prop :=
  ∀ (i : Instr) (s t : State) (f : Flag), exec i s = .next t → f ∉ flagsWritten i.mnemonic → t.flag f = s.flag f

/-- (Derived: 10_state.md sections 2 and 5, 20_memory.md section 4.) When an instruction answers a next state, every one
of A, X, Y and SP that R21, R22 and R31 do not list as written by its mnemonic (A for a shift in accumulator mode
only) has the value it had, and every memory cell other than the ones R59 has it write (its operand location for a
store or read-modify-write, the stack cells of a push) reads as it did. Where a push writes is the decision D5 of the
spec (log entry 8), what TXS, TSX and the transfers write its decisions D13 and D14 (log entry 11). -/
def Obligations.RegistersAndMemoryChangeOnlyWhereListed : Prop :=
  ∀ (i : Instr) (s t : State), exec i s = .next t →
    (∀ r, r ∉ regsWritten i → reg t r = reg s r) ∧
    (∀ c, c ∉ cellsWritten i s → t.readByte c = s.readByte c)

/-- (Derived: 10_state.md section 4.) Two states that differ at most in bits 4 and 5 of P: whatever one step answers in
the one, it answers in the other, a next state differing again at most in those bits, or the same fault. So no program
can observe them (R27). What BRK, PLP and RTI do to the two bits are the decisions D10 to D12 of the spec (log entries
9 and 10). -/
def Obligations.BreakAndUnusedBitsUnobservable : Prop :=
  ∀ s t : State, AgreeExceptBU s t →
    (∀ s', step s = .next s' → ∃ t', step t = .next t' ∧ AgreeExceptBU s' t') ∧
    (∀ r, step s = .fault r → step t = .fault r)
end

