-- ==== Sys2Proof/Laws/State.lean ====
section
/-! SUPPORT. One lemma for each field of State under each named update, so that no proof unfolds a record update. -/

namespace Sys2Proof.Machine

variable (s : State)

/-! ### setA -/

@[simp] theorem State.setA_a (v : Byte) : (s.setA v).a = v := rfl
@[simp] theorem State.setA_x (v : Byte) : (s.setA v).x = s.x := rfl
@[simp] theorem State.setA_y (v : Byte) : (s.setA v).y = s.y := rfl
@[simp] theorem State.setA_p (v : Byte) : (s.setA v).p = s.p := rfl
@[simp] theorem State.setA_sp (v : Byte) : (s.setA v).sp = s.sp := rfl
@[simp] theorem State.setA_pc (v : Byte) : (s.setA v).pc = s.pc := rfl
@[simp] theorem State.setA_mem (v : Byte) : (s.setA v).mem = s.mem := rfl
@[simp] theorem State.setA_config (v : Byte) : (s.setA v).config = s.config := rfl
@[simp] theorem State.setA_readByte (v : Byte) (c : Word) : (s.setA v).readByte c = s.readByte c := rfl

/-! ### setX -/

@[simp] theorem State.setX_a (v : Byte) : (s.setX v).a = s.a := rfl
@[simp] theorem State.setX_x (v : Byte) : (s.setX v).x = v := rfl
@[simp] theorem State.setX_y (v : Byte) : (s.setX v).y = s.y := rfl
@[simp] theorem State.setX_p (v : Byte) : (s.setX v).p = s.p := rfl
@[simp] theorem State.setX_sp (v : Byte) : (s.setX v).sp = s.sp := rfl
@[simp] theorem State.setX_pc (v : Byte) : (s.setX v).pc = s.pc := rfl
@[simp] theorem State.setX_mem (v : Byte) : (s.setX v).mem = s.mem := rfl
@[simp] theorem State.setX_config (v : Byte) : (s.setX v).config = s.config := rfl
@[simp] theorem State.setX_readByte (v : Byte) (c : Word) : (s.setX v).readByte c = s.readByte c := rfl

/-! ### setY -/

@[simp] theorem State.setY_a (v : Byte) : (s.setY v).a = s.a := rfl
@[simp] theorem State.setY_x (v : Byte) : (s.setY v).x = s.x := rfl
@[simp] theorem State.setY_y (v : Byte) : (s.setY v).y = v := rfl
@[simp] theorem State.setY_p (v : Byte) : (s.setY v).p = s.p := rfl
@[simp] theorem State.setY_sp (v : Byte) : (s.setY v).sp = s.sp := rfl
@[simp] theorem State.setY_pc (v : Byte) : (s.setY v).pc = s.pc := rfl
@[simp] theorem State.setY_mem (v : Byte) : (s.setY v).mem = s.mem := rfl
@[simp] theorem State.setY_config (v : Byte) : (s.setY v).config = s.config := rfl
@[simp] theorem State.setY_readByte (v : Byte) (c : Word) : (s.setY v).readByte c = s.readByte c := rfl

/-! ### setP -/

@[simp] theorem State.setP_a (v : Byte) : (s.setP v).a = s.a := rfl
@[simp] theorem State.setP_x (v : Byte) : (s.setP v).x = s.x := rfl
@[simp] theorem State.setP_y (v : Byte) : (s.setP v).y = s.y := rfl
@[simp] theorem State.setP_p (v : Byte) : (s.setP v).p = v := rfl
@[simp] theorem State.setP_sp (v : Byte) : (s.setP v).sp = s.sp := rfl
@[simp] theorem State.setP_pc (v : Byte) : (s.setP v).pc = s.pc := rfl
@[simp] theorem State.setP_mem (v : Byte) : (s.setP v).mem = s.mem := rfl
@[simp] theorem State.setP_config (v : Byte) : (s.setP v).config = s.config := rfl
@[simp] theorem State.setP_readByte (v : Byte) (c : Word) : (s.setP v).readByte c = s.readByte c := rfl

/-! ### setSp -/

@[simp] theorem State.setSp_a (v : Byte) : (s.setSp v).a = s.a := rfl
@[simp] theorem State.setSp_x (v : Byte) : (s.setSp v).x = s.x := rfl
@[simp] theorem State.setSp_y (v : Byte) : (s.setSp v).y = s.y := rfl
@[simp] theorem State.setSp_p (v : Byte) : (s.setSp v).p = s.p := rfl
@[simp] theorem State.setSp_sp (v : Byte) : (s.setSp v).sp = v := rfl
@[simp] theorem State.setSp_pc (v : Byte) : (s.setSp v).pc = s.pc := rfl
@[simp] theorem State.setSp_mem (v : Byte) : (s.setSp v).mem = s.mem := rfl
@[simp] theorem State.setSp_config (v : Byte) : (s.setSp v).config = s.config := rfl
@[simp] theorem State.setSp_readByte (v : Byte) (c : Word) : (s.setSp v).readByte c = s.readByte c := rfl

/-! ### setPc -/

@[simp] theorem State.setPc_a (v : Word) : (s.setPc v).a = s.a := rfl
@[simp] theorem State.setPc_x (v : Word) : (s.setPc v).x = s.x := rfl
@[simp] theorem State.setPc_y (v : Word) : (s.setPc v).y = s.y := rfl
@[simp] theorem State.setPc_p (v : Word) : (s.setPc v).p = s.p := rfl
@[simp] theorem State.setPc_sp (v : Word) : (s.setPc v).sp = s.sp := rfl
@[simp] theorem State.setPc_pc (v : Word) : (s.setPc v).pc = v := rfl
@[simp] theorem State.setPc_mem (v : Word) : (s.setPc v).mem = s.mem := rfl
@[simp] theorem State.setPc_config (v : Word) : (s.setPc v).config = s.config := rfl
@[simp] theorem State.setPc_readByte (v : Word) (c : Word) : (s.setPc v).readByte c = s.readByte c := rfl

/-! ### writeByte -/

@[simp] theorem State.writeByte_a (c : Word) (v : Byte) : (s.writeByte c v).a = s.a := rfl
@[simp] theorem State.writeByte_x (c : Word) (v : Byte) : (s.writeByte c v).x = s.x := rfl
@[simp] theorem State.writeByte_y (c : Word) (v : Byte) : (s.writeByte c v).y = s.y := rfl
@[simp] theorem State.writeByte_p (c : Word) (v : Byte) : (s.writeByte c v).p = s.p := rfl
@[simp] theorem State.writeByte_sp (c : Word) (v : Byte) : (s.writeByte c v).sp = s.sp := rfl
@[simp] theorem State.writeByte_pc (c : Word) (v : Byte) : (s.writeByte c v).pc = s.pc := rfl
@[simp] theorem State.writeByte_mem (c : Word) (v : Byte) : (s.writeByte c v).mem = s.mem.write c.toNat v := rfl
@[simp] theorem State.writeByte_config (c : Word) (v : Byte) : (s.writeByte c v).config = s.config := rfl

/-! ### advance -/

@[simp] theorem State.advance_a (len : Word) : (s.advance len).a = s.a := rfl
@[simp] theorem State.advance_x (len : Word) : (s.advance len).x = s.x := rfl
@[simp] theorem State.advance_y (len : Word) : (s.advance len).y = s.y := rfl
@[simp] theorem State.advance_p (len : Word) : (s.advance len).p = s.p := rfl
@[simp] theorem State.advance_sp (len : Word) : (s.advance len).sp = s.sp := rfl
@[simp] theorem State.advance_pc (len : Word) : (s.advance len).pc = s.pc + len := rfl
@[simp] theorem State.advance_mem (len : Word) : (s.advance len).mem = s.mem := rfl
@[simp] theorem State.advance_config (len : Word) : (s.advance len).config = s.config := rfl
@[simp] theorem State.advance_readByte (len c : Word) : (s.advance len).readByte c = s.readByte c := rfl

/-! ### putFlag -/

@[simp] theorem State.putFlag_a (f : Flag) (on : Bool) : (s.putFlag f on).a = s.a := rfl
@[simp] theorem State.putFlag_x (f : Flag) (on : Bool) : (s.putFlag f on).x = s.x := rfl
@[simp] theorem State.putFlag_y (f : Flag) (on : Bool) : (s.putFlag f on).y = s.y := rfl
@[simp] theorem State.putFlag_p (f : Flag) (on : Bool) : (s.putFlag f on).p = Machine.putFlag s.p f on := rfl
@[simp] theorem State.putFlag_sp (f : Flag) (on : Bool) : (s.putFlag f on).sp = s.sp := rfl
@[simp] theorem State.putFlag_pc (f : Flag) (on : Bool) : (s.putFlag f on).pc = s.pc := rfl
@[simp] theorem State.putFlag_mem (f : Flag) (on : Bool) : (s.putFlag f on).mem = s.mem := rfl
@[simp] theorem State.putFlag_config (f : Flag) (on : Bool) : (s.putFlag f on).config = s.config := rfl
@[simp] theorem State.putFlag_readByte (f : Flag) (on : Bool) (c : Word) : (s.putFlag f on).readByte c = s.readByte c := rfl

/-! ### setZN -/

@[simp] theorem State.setZN_a (r : Byte) : (s.setZN r).a = s.a := rfl
@[simp] theorem State.setZN_x (r : Byte) : (s.setZN r).x = s.x := rfl
@[simp] theorem State.setZN_y (r : Byte) : (s.setZN r).y = s.y := rfl
@[simp] theorem State.setZN_p (r : Byte) : (s.setZN r).p = putZN s.p r := rfl
@[simp] theorem State.setZN_sp (r : Byte) : (s.setZN r).sp = s.sp := rfl
@[simp] theorem State.setZN_pc (r : Byte) : (s.setZN r).pc = s.pc := rfl
@[simp] theorem State.setZN_mem (r : Byte) : (s.setZN r).mem = s.mem := rfl
@[simp] theorem State.setZN_config (r : Byte) : (s.setZN r).config = s.config := rfl
@[simp] theorem State.setZN_readByte (r : Byte) (c : Word) : (s.setZN r).readByte c = s.readByte c := rfl

/-! ### push -/

@[simp] theorem State.push_a (v : Byte) : (s.push v).a = s.a := rfl
@[simp] theorem State.push_x (v : Byte) : (s.push v).x = s.x := rfl
@[simp] theorem State.push_y (v : Byte) : (s.push v).y = s.y := rfl
@[simp] theorem State.push_p (v : Byte) : (s.push v).p = s.p := rfl
@[simp] theorem State.push_sp (v : Byte) : (s.push v).sp = s.sp - 1 := rfl
@[simp] theorem State.push_pc (v : Byte) : (s.push v).pc = s.pc := rfl
@[simp] theorem State.push_mem (v : Byte) : (s.push v).mem = s.mem.write (stackAddr s.sp).toNat v := rfl
@[simp] theorem State.push_config (v : Byte) : (s.push v).config = s.config := rfl

/-! ### pulled -/

@[simp] theorem State.pulled_a : (s.pulled).a = s.a := rfl
@[simp] theorem State.pulled_x : (s.pulled).x = s.x := rfl
@[simp] theorem State.pulled_y : (s.pulled).y = s.y := rfl
@[simp] theorem State.pulled_p : (s.pulled).p = s.p := rfl
@[simp] theorem State.pulled_sp : (s.pulled).sp = s.sp + 1 := rfl
@[simp] theorem State.pulled_pc : (s.pulled).pc = s.pc := rfl
@[simp] theorem State.pulled_mem : (s.pulled).mem = s.mem := rfl
@[simp] theorem State.pulled_config : (s.pulled).config = s.config := rfl
@[simp] theorem State.pulled_readByte (c : Word) : s.pulled.readByte c = s.readByte c := rfl

end Sys2Proof.Machine
end

