-- ==== Sys2Proof/Laws/Flags.lean ====
section
/-! SUPPORT. The laws of the flags of P (R25, R114, R237) and of the byte order helpers. -/

namespace Sys2Proof

/-! ## Byte order -/

theorem wordOf_toNat (hi lo : Byte) : (wordOf hi lo).toNat = hi.toNat * 256 + lo.toNat := by
  have h := lo.isLt
  simp only [wordOf, BitVec.toNat_append, Nat.shiftLeft_eq]
  rw [← Nat.shiftLeft_eq, ← Nat.shiftLeft_add_eq_or_of_lt h, Nat.shiftLeft_eq]

theorem wordOf_hiByte_loByte (w : Word) : wordOf (hiByte w) (loByte w) = w := by
  apply BitVec.eq_of_toNat_eq
  rw [wordOf_toNat]
  simp only [hiByte, loByte, BitVec.extractLsb'_toNat, Nat.shiftRight_eq_div_pow]
  have h := w.isLt
  omega

theorem hiByte_wordOf (hi lo : Byte) : hiByte (wordOf hi lo) = hi := by
  apply BitVec.eq_of_toNat_eq
  simp only [hiByte, BitVec.extractLsb'_toNat, Nat.shiftRight_eq_div_pow, wordOf_toNat]
  have h1 := hi.isLt
  have h2 := lo.isLt
  omega

theorem loByte_wordOf (hi lo : Byte) : loByte (wordOf hi lo) = lo := by
  apply BitVec.eq_of_toNat_eq
  simp only [loByte, BitVec.extractLsb'_toNat, Nat.shiftRight_eq_div_pow, wordOf_toNat]
  have h1 := hi.isLt
  have h2 := lo.isLt
  omega

namespace Machine

/-! ## The stack page -/

theorem stackAddr_toNat (sp : Byte) : (stackAddr sp).toNat = 256 + sp.toNat := by
  simp [stackAddr, wordOf_toNat]

theorem stackAddr_inj {p q : Byte} : stackAddr p = stackAddr q ↔ p = q := by
  constructor
  · intro h
    have := congrArg BitVec.toNat h
    simp only [stackAddr_toNat] at this
    exact BitVec.eq_of_toNat_eq (by omega)
  · rintro rfl; rfl

/-! ## The bits of P -/

/-- A mask is the bit at the flag's position. -/
theorem Flag.mask_getLsbD (f g : Flag) : f.mask.getLsbD g.bit = decide (f = g) := by
  cases f <;> cases g <;> decide

theorem Flag.bit_lt (f : Flag) : f.bit < 8 := by cases f <;> decide

theorem getFlag_putFlag (p : Byte) (f g : Flag) (on : Bool) :
    getFlag (putFlag p f on) g = if g = f then on else getFlag p g := by
  have hm := Flag.mask_getLsbD f g
  have hb := Flag.bit_lt g
  by_cases h : g = f
  · subst h; cases on <;> simp_all [getFlag, putFlag]
  · have h' : ¬ f = g := fun e => h e.symm
    cases on <;> simp_all [getFlag, putFlag]

/-- R114: Z and N from the result byte, every other flag as it was. -/
theorem getFlag_putZN (p r : Byte) (g : Flag) :
    getFlag (putZN p r) g = if g = .n then r.getLsbD 7 else if g = .z then (r == 0) else getFlag p g := by
  simp only [putZN, getFlag_putFlag]

@[simp] theorem State.flag_putFlag (s : State) (f g : Flag) (on : Bool) :
    (s.putFlag f on).flag g = if g = f then on else s.flag g := getFlag_putFlag s.p f g on

@[simp] theorem State.flag_setZN (s : State) (r : Byte) (g : Flag) :
    (s.setZN r).flag g = if g = .n then r.getLsbD 7 else if g = .z then (r == 0) else s.flag g := getFlag_putZN s.p r g

/-- A flag depends on P alone. -/
theorem State.flag_eq_getFlag (s : State) (f : Flag) : s.flag f = getFlag s.p f := rfl

/-- Two values of P with the same eight flags are equal. -/
theorem eq_of_getFlag_eq {p q : Byte} (h : ∀ f, getFlag p f = getFlag q f) : p = q := by
  apply BitVec.eq_of_getLsbD_eq
  intro k hk
  match k, hk with
  | 0, _ => exact h .c
  | 1, _ => exact h .z
  | 2, _ => exact h .i
  | 3, _ => exact h .d
  | 4, _ => exact h .b
  | 5, _ => exact h .u
  | 6, _ => exact h .v
  | 7, _ => exact h .n

/-- Every flag of the status that PHP and BRK push (R232, R251). -/
theorem getFlag_pushedStatus (p : Byte) (f : Flag) :
    getFlag (pushedStatus p) f = (getFlag p f || decide (f = .b) || decide (f = .u)) := by
  cases f <;> simp [getFlag, pushedStatus, Flag.bit]

/-- Every flag of the status that RTI restores (R252). -/
theorem getFlag_restoredStatus (p : Byte) (f : Flag) :
    getFlag (restoredStatus p) f = (getFlag p f && !decide (f = .b) && !decide (f = .u)) := by
  cases f <;> simp [getFlag, restoredStatus, Flag.bit]

end Machine

end Sys2Proof
end

