-- ==== Sys2Proof/Laws/Decode.lean ====
section
/-! SUPPORT. The laws of the decoder: how the decoder on a sequence of bytes and the decoder on three bytes agree, and what
`XFER_PRESENT` changes. -/

namespace Sys2Proof

/-- With the transfers present the decoder is the matrix. -/
theorem decodeOpcode_present {cfg : Config} (h : cfg.xferPresent = true) (op : Byte) :
    decodeOpcode cfg op = matrixCell op := by
  simp [decodeOpcode, h]

/-- A byte that is no transfer's is decoded by the matrix under every configuration. -/
theorem decodeOpcode_other (cfg : Config) {op : Byte} (h : op ∉ transferOpcodes) :
    decodeOpcode cfg op = matrixCell op := by
  simp [decodeOpcode, h]

theorem decode_of_none {cfg : Config} {op : Byte} (h : decodeOpcode cfg op = none) (rest : List Byte) :
    decode cfg (op :: rest) = .unmapped op := by
  simp [decode, h]

theorem decode_of_some {cfg : Config} {op : Byte} {f : Format} (h : decodeOpcode cfg op = some f) (rest : List Byte) :
    decode cfg (op :: rest) = f.read rest := by
  simp [decode, h]

/-- A format that reads an instruction from a sequence assembles it from the sequence's first two bytes. -/
theorem Format.assemble_of_read {f : Format} {b1 b2 : Byte} {rest r : List Byte} {i : Instr}
    (h : f.read (b1 :: b2 :: rest) = .instr i r) : f.assemble b1 b2 = i := by
  cases f <;> simp [Format.read] at h <;> simp [Format.assemble, h.1]

/-- Reading a format never answers that an opcode is unmapped. -/
theorem Format.read_ne_unmapped (f : Format) (rest : List Byte) (op : Byte) : f.read rest ≠ .unmapped op := by
  cases f <;> rcases rest with _ | ⟨b1, _ | ⟨b2, r⟩⟩ <;> simp [Format.read]

/-- Decoding an instruction from a sequence is decoding its first three bytes. -/
theorem decodeWindow_of_decode {cfg : Config} {op b1 b2 : Byte} {rest r : List Byte} {i : Instr}
    (h : decode cfg (op :: b1 :: b2 :: rest) = .instr i r) : decodeWindow cfg op b1 b2 = some i := by
  cases hf : decodeOpcode cfg op with
  | none => rw [decode_of_none hf] at h; simp at h
  | some f =>
    rw [decode_of_some hf] at h
    simp [decodeWindow, hf, Format.assemble_of_read h]

/-- The first byte is reported unmapped exactly when the decoder has no row for it (R83). -/
theorem decode_eq_unmapped {cfg : Config} {op : Byte} {rest : List Byte} :
    decode cfg (op :: rest) = .unmapped op ↔ decodeOpcode cfg op = none := by
  constructor
  · intro h
    cases hf : decodeOpcode cfg op with
    | none => rfl
    | some f => rw [decode_of_some hf] at h; exact absurd h (f.read_ne_unmapped rest op)
  · intro h; exact decode_of_none h rest

theorem decodeWindow_eq_none {cfg : Config} {op b1 b2 : Byte} :
    decodeWindow cfg op b1 b2 = none ↔ decodeOpcode cfg op = none := by
  simp [decodeWindow]

/-- The fetch of an unmapped byte (R90). -/
theorem Machine.fetchInstr_eq_none {s : Machine.State} :
    Machine.fetchInstr s = none ↔ decodeOpcode s.config (s.readByte s.pc) = none :=
  decodeWindow_eq_none

/-! ## The two views of the table -/

/-- The instruction that a format builds is encoded, by R86's table, as the opcode byte and the operand bytes. -/
def Format.EncodesAs (op : Byte) : Format → Prop
  | .f1 i => encode i = [op]
  | .f2 mk => ∀ b, encode (mk b) = [op, b]
  | .f3 mk => ∀ w, encode (mk w) = [op, loByte w, hiByte w]

/-- Every cell of R87's matrix agrees with R86's table: by going through the 256 bytes. -/
theorem matrixCell_encodes (op : Byte) :
    match matrixCell op with
    | none => True
    | some f => f.EncodesAs op := by
  have h : ∀ k, k < 256 → (match matrixCell (BitVec.ofNat 8 k) with
      | none => True
      | some f => f.EncodesAs (BitVec.ofNat 8 k)) := by
    intro k hk
    interval_cases k <;> first | exact trivial | exact fun _ => rfl | exact rfl
  have h' := h op.toNat op.isLt
  rwa [BitVec.ofNat_toNat, BitVec.setWidth_eq] at h'

/-- A format that the decoder finds is a cell of the matrix. -/
theorem matrixCell_of_decodeOpcode {cfg : Config} {op : Byte} {f : Format} (h : decodeOpcode cfg op = some f) :
    matrixCell op = some f := by
  unfold decodeOpcode at h
  split at h
  · simp at h
  · exact h

/-- The bytes the decoder reads an instruction from are the bytes the encoder gives it. -/
theorem encodesAs_of_decodeOpcode {cfg : Config} {op : Byte} {f : Format} (h : decodeOpcode cfg op = some f) :
    f.EncodesAs op := by
  have hc := matrixCell_encodes op
  rwa [matrixCell_of_decodeOpcode h] at hc

/-- An instruction found at an opcode byte has that opcode byte. -/
theorem opcode_of_decodeWindow {cfg : Config} {op b1 b2 : Byte} {i : Instr} (h : decodeWindow cfg op b1 b2 = some i) :
    i.opcode = op := by
  cases hf : decodeOpcode cfg op with
  | none => simp [decodeWindow, hf] at h
  | some f =>
    have he := encodesAs_of_decodeOpcode hf
    simp only [decodeWindow, hf, Option.map_some, Option.some.injEq] at h
    subst h
    cases f with
    | f1 i => exact (List.cons.inj he).1
    | f2 mk => exact (List.cons.inj (he b1)).1
    | f3 mk => exact (List.cons.inj (he (wordOf b2 b1))).1

end Sys2Proof
end

