-- ==== Sys2Proof/Laws/Memory.lean ====
section
/-! SUPPORT. The laws of memory: a read after a write (R51, R52), and that every operation keeps the canonical form. -/

namespace Sys2Proof.Machine

@[simp] theorem Memory.read_nil (a : Nat) : Memory.read [] a = Memory.unlisted := rfl

/-- A search for the key `b` ignores the entries a filter on the key drops, when it keeps `b`. -/
theorem Memory.find?_filter (m : Memory) (keep : Nat → Bool) (b : Nat) :
    (m.filter (fun c => keep c.1)).find? (fun c => c.1 == b) =
      if keep b then m.find? (fun c => c.1 == b) else none := by
  induction m with
  | nil => simp
  | cons c m ih =>
    by_cases hk : keep c.1 <;> by_cases hb : c.1 = b
    · subst hb; simp [hk]
    · simp [hk, hb, ih]
    · subst hb; simp [hk, ih]
    · simp [hk, hb, ih]

/-- R51: a write sets its cell and no other, in every memory, canonical or not. -/
theorem Memory.read_write (m : Memory) (a b : Nat) (v : Byte) :
    (m.write a v).read b = if b = a then v else m.read b := by
  have hlo := Memory.find?_filter m (fun k => decide (k < a)) b
  have hhi := Memory.find?_filter m (fun k => decide (a < k)) b
  simp only [Memory.read, Memory.write, List.find?_append, hlo, hhi]
  rcases Nat.lt_trichotomy b a with h | h | h
  · have h1 : ¬ a < b := by omega
    have h2 : b ≠ a := by omega
    have h3 : a ≠ b := by omega
    by_cases hv : v = Memory.unlisted <;> cases hm : m.find? (fun c => c.1 == b) <;> simp [h, h1, h2, h3, hv]
  · subst h
    by_cases hv : v = Memory.unlisted <;> simp [hv]
  · have h1 : ¬ b < a := by omega
    have h2 : b ≠ a := by omega
    have h3 : a ≠ b := by omega
    by_cases hv : v = Memory.unlisted <;> cases hm : m.find? (fun c => c.1 == b) <;> simp [h, h1, h2, h3, hv]

/-- A write inside the address space keeps the canonical form. -/
theorem Memory.write_wf {m : Memory} {a : Nat} (v : Byte) (ha : a < 65536) (h : m.wf) : (m.write a v).wf := by
  obtain ⟨hsorted, hcells⟩ := h
  have hlo := hsorted.filter (fun c => decide (c.1 < a))
  have hhi := hsorted.filter (fun c => decide (a < c.1))
  unfold Memory.write
  constructor
  · by_cases hv : v = Memory.unlisted
    · simp only [hv, if_true, List.append_nil]
      refine List.pairwise_append.2 ⟨hlo, hhi, fun c hc d hd => ?_⟩
      simp only [List.mem_filter, decide_eq_true_eq] at hc hd
      omega
    · simp only [hv, if_false]
      refine List.pairwise_append.2 ⟨List.pairwise_append.2 ⟨hlo, by simp, fun c hc d hd => ?_⟩, hhi, fun c hc d hd => ?_⟩
      · simp only [List.mem_filter, decide_eq_true_eq, List.mem_singleton] at hc hd
        subst hd; exact hc.2
      · simp only [List.mem_append, List.mem_filter, decide_eq_true_eq, List.mem_singleton] at hc hd
        rcases hc with hc | rfl
        · omega
        · exact hd.2
  · intro c hc
    simp only [List.mem_append, List.mem_filter] at hc
    rcases hc with (hc | hc) | hc
    · exact hcells c hc.1
    · by_cases hv : v = Memory.unlisted
      · simp [hv] at hc
      · simp only [hv, if_false, List.mem_singleton] at hc
        subst hc; exact ⟨ha, hv⟩
    · exact hcells c hc.1

/-- Storing what an unlisted cell reads as in a memory that lists nothing leaves it listing nothing. -/
theorem Memory.write_unlisted_nil (a : Nat) : Memory.write [] a Memory.unlisted = [] := rfl

theorem Memory.load_wf (bytes : List Byte) : ∀ {m : Memory} {base : Nat}, m.wf → (m.load base bytes).wf := by
  induction bytes with
  | nil => intro m base h; exact h
  | cons v rest ih =>
    intro m base h
    unfold Memory.load
    split
    · exact ih (Memory.write_wf v (by assumption) h)
    · exact h

/-! ## At the level of the state -/

theorem State.readByte_writeByte (s : State) (c d : Word) (v : Byte) :
    (s.writeByte c v).readByte d = if d = c then v else s.readByte d := by
  simp only [State.readByte, State.writeByte_mem, Memory.read_write, BitVec.toNat_inj]

@[simp] theorem State.readByte_writeByte_same (s : State) (c : Word) (v : Byte) : (s.writeByte c v).readByte c = v := by
  simp [State.readByte_writeByte]

theorem State.readByte_writeByte_other (s : State) {c d : Word} (v : Byte) (h : d ≠ c) :
    (s.writeByte c v).readByte d = s.readByte d := by
  simp [State.readByte_writeByte, h]

theorem State.writeByte_wf {s : State} (c : Word) (v : Byte) (h : s.mem.wf) : (s.writeByte c v).mem.wf :=
  Memory.write_wf v c.isLt h

theorem State.push_wf {s : State} (v : Byte) (h : s.mem.wf) : (s.push v).mem.wf :=
  State.writeByte_wf _ v h

theorem State.pushWord_wf {s : State} (w : Word) (h : s.mem.wf) : (s.pushWord w).mem.wf :=
  State.push_wf _ (State.push_wf _ h)

end Sys2Proof.Machine
end

