-- ==== Sys2Proof/Laws/Exec.lean ====
section
/-! SUPPORT. One lemma for each shared operation of the meanings, which says everything it can do: if it answers a next state,
that state is the old one with the fields shown changed. -/

namespace Sys2Proof.Machine

variable {s t : State} {len : Word}

/-- R151. -/
theorem loadA_next (m : Byte) (h : loadA m len s = .next t) :
    t = { s with a := m, p := putZN s.p m, pc := s.pc + len } := by
  cases h; rfl

/-- R152. -/
theorem loadX_next (m : Byte) (h : loadX m len s = .next t) :
    t = { s with x := m, p := putZN s.p m, pc := s.pc + len } := by
  cases h; rfl

/-- R153. -/
theorem loadY_next (m : Byte) (h : loadY m len s = .next t) :
    t = { s with y := m, p := putZN s.p m, pc := s.pc + len } := by
  cases h; rfl

/-- R154 to R156. -/
theorem storeByte_next (v : Byte) (ea : Word) (h : storeByte v ea len s = .next t) :
    t = { s with mem := s.mem.write ea.toNat v, pc := s.pc + len } := by
  cases h; rfl

/-- R171, R173. -/
theorem putSum_next (sum : Sum8) (h : putSum sum len s = .next t) :
    t = { s with a := sum.r, p := putZN (putFlag (putFlag s.p .c sum.cout) .v sum.v) sum.r, pc := s.pc + len } := by
  cases h; rfl

/-- R174. -/
theorem andByte_next (m : Byte) (h : andByte m len s = .next t) :
    t = { s with a := s.a &&& m, p := putZN s.p (s.a &&& m), pc := s.pc + len } := by
  cases h; rfl

/-- R175. -/
theorem eorByte_next (m : Byte) (h : eorByte m len s = .next t) :
    t = { s with a := s.a ^^^ m, p := putZN s.p (s.a ^^^ m), pc := s.pc + len } := by
  cases h; rfl

/-- R176. -/
theorem oraByte_next (m : Byte) (h : oraByte m len s = .next t) :
    t = { s with a := s.a ||| m, p := putZN s.p (s.a ||| m), pc := s.pc + len } := by
  cases h; rfl

/-- R177. -/
theorem testBits_next (m : Byte) (h : testBits m len s = .next t) :
    t = { s with p := putFlag (putFlag (putFlag s.p .n (m.getLsbD 7)) .v (m.getLsbD 6)) .z (s.a &&& m == 0), pc := s.pc + len } := by
  cases h; rfl

/-- R178 to R180. -/
theorem compareWith_next (reg m : Byte) (h : compareWith reg m len s = .next t) :
    t = { s with p := putZN (putFlag s.p .c (cmp8 reg m).2) (cmp8 reg m).1, pc := s.pc + len } := by
  cases h; rfl

/-- R195, R196. -/
theorem stepMemory_next (f : Byte → Byte) (ea : Word) (h : stepMemory f ea len s = .next t) :
    t = { s with mem := s.mem.write ea.toNat (f (s.readByte ea)), p := putZN s.p (f (s.readByte ea)), pc := s.pc + len } := by
  cases h; rfl

/-- R197, R199. -/
theorem stepX_next (v : Byte) (h : stepX v s = .next t) :
    t = { s with x := v, p := putZN s.p v, pc := s.pc + 1 } := by
  cases h; rfl

/-- R198, R200. -/
theorem stepY_next (v : Byte) (h : stepY v s = .next t) :
    t = { s with y := v, p := putZN s.p v, pc := s.pc + 1 } := by
  cases h; rfl

/-- R210. -/
theorem branch_next (taken : Bool) (d : Byte) (h : branch taken d s = .next t) :
    t = { s with pc := if taken then eaRel d s else s.pc + 2 } := by
  cases h; rfl

/-- R219. -/
theorem jumpTo_next (ea : Word) (h : jumpTo ea s = .next t) :
    t = { s with pc := ea } := by
  cases h; rfl

/-- R220. -/
theorem callSubroutine_next (ea : Word) (h : callSubroutine ea s = .next t) :
    t = { s with mem := (s.mem.write (stackAddr s.sp).toNat (hiByte (s.pc + 2))).write (stackAddr (s.sp - 1)).toNat (loByte (s.pc + 2)), sp := s.sp - 1 - 1, pc := ea } := by
  cases h; rfl

/-- R221. -/
theorem returnFromSubroutine_next (h : returnFromSubroutine s = .next t) :
    t = { s with sp := s.sp + 1 + 1, pc := s.pullWord + 1 } := by
  cases h; rfl

/-- R237. -/
theorem writeFlag_next (f : Flag) (on : Bool) (h : writeFlag f on s = .next t) :
    t = { s with p := putFlag s.p f on, pc := s.pc + 1 } := by
  cases h; rfl

/-- R190: a shift of A. -/
theorem shiftAt_acc_next (f : Byte → Byte × Bool) (h : shiftAt f .acc len s = .next t) :
    t = { s with a := (f s.a).1, p := putZN (putFlag s.p .c (f s.a).2) (f s.a).1, pc := s.pc + len } := by
  cases h; rfl

/-- R190: a shift of a memory cell. -/
theorem shiftAt_mem_next (f : Byte → Byte × Bool) (ea : Word) (h : shiftAt f (.mem ea) len s = .next t) :
    t = { s with mem := s.mem.write ea.toNat (f (s.readByte ea)).1,
                 p := putZN (putFlag s.p .c (f (s.readByte ea)).2) (f (s.readByte ea)).1, pc := s.pc + len } := by
  cases h; rfl

/-! ## The fields after a 16-bit push, the software interrupt's entry and its return -/

@[simp] theorem State.pushWord_a (s : State) (w : Word) : (s.pushWord w).a = s.a := rfl
@[simp] theorem State.pushWord_x (s : State) (w : Word) : (s.pushWord w).x = s.x := rfl
@[simp] theorem State.pushWord_y (s : State) (w : Word) : (s.pushWord w).y = s.y := rfl
@[simp] theorem State.pushWord_p (s : State) (w : Word) : (s.pushWord w).p = s.p := rfl
@[simp] theorem State.pushWord_sp (s : State) (w : Word) : (s.pushWord w).sp = s.sp - 1 - 1 := rfl
@[simp] theorem State.pushWord_pc (s : State) (w : Word) : (s.pushWord w).pc = s.pc := rfl
@[simp] theorem State.pushWord_config (s : State) (w : Word) : (s.pushWord w).config = s.config := rfl

/-! R251: every field after BRK's entry. -/

@[simp] theorem enterInterrupt_a (s : State) :
    (enterInterrupt s).a = s.a := by
  simp only [enterInterrupt, State.setPc_a]; split <;> rfl

@[simp] theorem enterInterrupt_x (s : State) :
    (enterInterrupt s).x = s.x := by
  simp only [enterInterrupt, State.setPc_x]; split <;> rfl

@[simp] theorem enterInterrupt_y (s : State) :
    (enterInterrupt s).y = s.y := by
  simp only [enterInterrupt, State.setPc_y]; split <;> rfl

@[simp] theorem enterInterrupt_config (s : State) :
    (enterInterrupt s).config = s.config := by
  simp only [enterInterrupt, State.setPc_config]; split <;> rfl

@[simp] theorem enterInterrupt_sp (s : State) :
    (enterInterrupt s).sp = s.sp - 1 - 1 - 1 := by
  simp only [enterInterrupt, State.setPc_sp]; split <;> rfl

@[simp] theorem enterInterrupt_pc (s : State) :
    (enterInterrupt s).pc = s.pc + brkLength s.config.brkAdvance := rfl

@[simp] theorem enterInterrupt_p (s : State) :
    (enterInterrupt s).p = if s.config.brkSetsI then putFlag s.p .i true else s.p := by
  simp only [enterInterrupt, State.setPc_p]; split <;> rfl

@[simp] theorem enterInterrupt_mem (s : State) :
    (enterInterrupt s).mem = ((s.pushWord (s.pc + 2)).push (pushedStatus s.p)).mem := by
  simp only [enterInterrupt, State.setPc_mem]; split <;> rfl

/-- R252: everything RTI changes. -/
theorem returnFromInterrupt_eq (s : State) :
    returnFromInterrupt s =
      { s with sp := s.sp + 1 + 1 + 1, p := restoredStatus s.pullByte, pc := s.pulled.pullWord } := rfl

/-! ## Pushes and pulls -/

/-- Two stack cells whose pointers differ are different cells. -/
theorem stackAddr_ne {p q : Byte} (h : p ≠ q) : stackAddr p ≠ stackAddr q := fun e => h (stackAddr_inj.1 e)

/-- A push sets the cell SP points at and no other (R29). -/
theorem State.readByte_push (s : State) (v : Byte) (c : Word) :
    (s.push v).readByte c = if c = stackAddr s.sp then v else s.readByte c :=
  State.readByte_writeByte s (stackAddr s.sp) c v

/-- R30: a pull after a push returns the byte pushed. -/
theorem State.pullByte_push (s : State) (v : Byte) : (s.push v).pullByte = v := by
  have h : s.sp - 1 + 1 = s.sp := by simp
  simp only [State.pullByte, State.readByte_push, State.push_sp, h, if_true]

/-- R30: a pull after a push restores SP. -/
theorem State.sp_pulled_push (s : State) (v : Byte) : (s.push v).pulled.sp = s.sp := by simp

/-! ## Steps -/

/-- R110: a step whose fetch finds an instruction is that instruction's meaning. -/
theorem step_of_fetch {i : Instr} (h : fetchInstr s = some i) : step s = exec i s := by
  unfold step; rw [h]

/-- R110: a step whose fetch finds none is the report. -/
theorem step_of_no_fetch (h : fetchInstr s = none) : step s = unsupportedOpcode s := by
  unfold step; rw [h]

/-- A step that answers a next state is the meaning of the instruction fetched. -/
theorem exec_of_step_next (h : step s = .next t) : ∃ i, fetchInstr s = some i ∧ exec i s = .next t := by
  cases hf : fetchInstr s with
  | none => rw [step_of_no_fetch hf] at h; simp [unsupportedOpcode] at h
  | some i => exact ⟨i, rfl, by rw [← step_of_fetch hf]; exact h⟩

end Sys2Proof.Machine
end

