-- ==== Sys2Proof/Laws/Operands.lean ====
section
/-! SUPPORT. The small lemmas of the operand locations (R12), of the resolver (R125 to R139) and of the operand byte, one for each
mode; and each flag under the updates that keep P. -/

namespace Sys2Proof.Machine

variable (s : State)

/-! ## Operand locations (R12) -/

@[simp] theorem State.readLoc_acc : s.readLoc .acc = s.a := rfl
@[simp] theorem State.readLoc_mem (ea : Word) : s.readLoc (.mem ea) = s.readByte ea := rfl
@[simp] theorem State.writeLoc_acc (v : Byte) : s.writeLoc .acc v = s.setA v := rfl
@[simp] theorem State.writeLoc_mem (ea : Word) (v : Byte) : s.writeLoc (.mem ea) v = s.writeByte ea v := rfl

/-! ## Flags under the updates that keep P -/

@[simp] theorem State.setA_flag (v : Byte) (f : Flag) : (s.setA v).flag f = s.flag f := rfl
@[simp] theorem State.setX_flag (v : Byte) (f : Flag) : (s.setX v).flag f = s.flag f := rfl
@[simp] theorem State.setY_flag (v : Byte) (f : Flag) : (s.setY v).flag f = s.flag f := rfl
@[simp] theorem State.setSp_flag (v : Byte) (f : Flag) : (s.setSp v).flag f = s.flag f := rfl
@[simp] theorem State.setPc_flag (v : Word) (f : Flag) : (s.setPc v).flag f = s.flag f := rfl
@[simp] theorem State.setP_flag (v : Byte) (f : Flag) : (s.setP v).flag f = getFlag v f := rfl
@[simp] theorem State.writeByte_flag (c : Word) (v : Byte) (f : Flag) : (s.writeByte c v).flag f = s.flag f := rfl
@[simp] theorem State.advance_flag (len : Word) (f : Flag) : (s.advance len).flag f = s.flag f := rfl
@[simp] theorem State.push_flag (v : Byte) (f : Flag) : (s.push v).flag f = s.flag f := rfl
@[simp] theorem State.pulled_flag (f : Flag) : s.pulled.flag f = s.flag f := rfl

/-! ## Zero page and byte order -/

theorem zext16_toNat (b : Byte) : (zext16 b).toNat = b.toNat := by
  have h := b.isLt
  simp only [zext16, BitVec.toNat_setWidth]
  omega

theorem zext16_eq_ofNat (b : Byte) : zext16 b = BitVec.ofNat 16 b.toNat := by
  have h := b.isLt
  apply BitVec.eq_of_toNat_eq
  rw [zext16_toNat, BitVec.toNat_ofNat]
  omega

end Sys2Proof.Machine

namespace Sys2Proof

open Machine

variable (s : State)

/-! ## The resolver's table (R139) -/

@[simp] theorem Operand.resolve_imp : Operand.imp.resolve s = none := rfl
@[simp] theorem Operand.resolve_acc : Operand.acc.resolve s = some .acc := rfl
@[simp] theorem Operand.resolve_imm (v : Byte) : (Operand.imm v).resolve s = some (.mem (s.pc + 1)) := rfl
@[simp] theorem Operand.resolve_zp (b : Byte) : (Operand.zp b).resolve s = some (.mem (eaZp b)) := rfl
@[simp] theorem Operand.resolve_zpx (b : Byte) : (Operand.zpx b).resolve s = some (.mem (eaZpx b s)) := rfl
@[simp] theorem Operand.resolve_zpy (b : Byte) : (Operand.zpy b).resolve s = some (.mem (eaZpy b s)) := rfl
@[simp] theorem Operand.resolve_abs (w : Word) : (Operand.abs w).resolve s = some (.mem (eaAbs w)) := rfl
@[simp] theorem Operand.resolve_abx (w : Word) : (Operand.abx w).resolve s = some (.mem (eaAbx w s)) := rfl
@[simp] theorem Operand.resolve_aby (w : Word) : (Operand.aby w).resolve s = some (.mem (eaAby w s)) := rfl
@[simp] theorem Operand.resolve_ind (w : Word) : (Operand.ind w).resolve s = some (.mem (eaInd w s)) := rfl
@[simp] theorem Operand.resolve_izx (b : Byte) : (Operand.izx b).resolve s = some (.mem (eaIzx b s)) := rfl
@[simp] theorem Operand.resolve_izy (b : Byte) : (Operand.izy b).resolve s = some (.mem (eaIzy b s)) := rfl
@[simp] theorem Operand.resolve_rel (d : Byte) : (Operand.rel d).resolve s = some (.mem (eaRel d s)) := rfl

/-! ## The operand byte -/

@[simp] theorem Operand.value_imp : Operand.imp.value s = none := rfl
@[simp] theorem Operand.value_acc : Operand.acc.value s = some s.a := rfl
@[simp] theorem Operand.value_imm (v : Byte) : (Operand.imm v).value s = some v := rfl
@[simp] theorem Operand.value_zp (b : Byte) : (Operand.zp b).value s = some (s.readByte (eaZp b)) := rfl
@[simp] theorem Operand.value_zpx (b : Byte) : (Operand.zpx b).value s = some (s.readByte (eaZpx b s)) := rfl
@[simp] theorem Operand.value_zpy (b : Byte) : (Operand.zpy b).value s = some (s.readByte (eaZpy b s)) := rfl
@[simp] theorem Operand.value_abs (w : Word) : (Operand.abs w).value s = some (s.readByte (eaAbs w)) := rfl
@[simp] theorem Operand.value_abx (w : Word) : (Operand.abx w).value s = some (s.readByte (eaAbx w s)) := rfl
@[simp] theorem Operand.value_aby (w : Word) : (Operand.aby w).value s = some (s.readByte (eaAby w s)) := rfl
@[simp] theorem Operand.value_ind (w : Word) : (Operand.ind w).value s = none := rfl
@[simp] theorem Operand.value_izx (b : Byte) : (Operand.izx b).value s = some (s.readByte (eaIzx b s)) := rfl
@[simp] theorem Operand.value_izy (b : Byte) : (Operand.izy b).value s = some (s.readByte (eaIzy b s)) := rfl
@[simp] theorem Operand.value_rel (d : Byte) : (Operand.rel d).value s = none := rfl

end Sys2Proof
end

