-- ==== Sys2Proof/Laws/Frames.lean ====
section
/-! SUPPORT. The small lemmas of the terms of Safety.lean: how a claim about the forms of a mnemonic is shown from its
constructors and its opcode bytes, and frames composed. -/

namespace Sys2Proof.Safety

open Machine

/-- The forms of a mnemonic are known when every constructor's opcode and mode are listed and every listed byte, none of
them a transfer's, decodes to a form of the mnemonic. -/
theorem formsAre_of {mn : Mnemonic} {forms : List (Byte × Mode)}
    (hlisted : ∀ i : Instr, i.mnemonic = mn → (i.opcode, i.mode) ∈ forms)
    (hdecoded : ∀ p ∈ forms, p.1 ∉ transferOpcodes ∧
      ∃ i, decodeWindow .default p.1 0 0 = some i ∧ i.mnemonic = mn ∧ i.mode = p.2) :
    FormsAre mn forms := by
  intro cfg op m
  constructor
  · rintro ⟨b1, b2, i, hd, hm, rfl⟩
    rw [← opcode_of_decodeWindow hd]
    exact hlisted i hm
  · intro h
    obtain ⟨hnt, i, hd, hm, hmode⟩ := hdecoded _ h
    refine ⟨0, 0, i, ?_, hm, hmode⟩
    rwa [decodeWindow, decodeOpcode_other _ hnt, ← decodeOpcode_other .default hnt, ← decodeWindow]

/-- Z and N after `setZN`, whatever follows that keeps P. -/
theorem ZNFrom.of_setZN {s t : State} {r : Byte} (h : t.p = putZN s.p r) : ZNFrom r t := by
  constructor <;> simp [State.flag_eq_getFlag, h, getFlag_putZN, BEq.beq]

theorem ChangesOnly.refl (regs : List Reg) (flags : List Flag) (cells : List Word) (s : State) :
    ChangesOnly regs flags cells s s :=
  ⟨fun _ _ => rfl, fun _ _ => rfl, fun _ _ => rfl, rfl⟩

/-- Two changes in turn change what either may change. -/
theorem ChangesOnly.trans {r r' : List Reg} {f f' : List Flag} {c c' : List Word} {s t u : State}
    (h : ChangesOnly r f c s t) (h' : ChangesOnly r' f' c' t u) : ChangesOnly (r ++ r') (f ++ f') (c ++ c') s u where
  regs_kept q hq := by
    simp only [List.mem_append, not_or] at hq
    rw [h'.regs_kept q hq.2, h.regs_kept q hq.1]
  flags_kept q hq := by
    simp only [List.mem_append, not_or] at hq
    rw [h'.flags_kept q hq.2, h.flags_kept q hq.1]
  cells_kept q hq := by
    simp only [List.mem_append, not_or] at hq
    rw [h'.cells_kept q hq.2, h.cells_kept q hq.1]
  config_kept := by rw [h'.config_kept, h.config_kept]

end Sys2Proof.Safety
end

