-- ==== Sys2Proof/Laws/PerInstr.lean ====
section
/-! SUPPORT. One lemma for each instruction: the decoder, written from R87's matrix, reads it back from the opcode byte that
the encoder, written from R86's table, gives it. -/

namespace Sys2Proof.Laws.DecodesBack

/-- Under the default parameters the opcode byte and operand bytes of the instruction decode to it. -/
def Statement (i : Instr) : Prop :=
  decodeWindow Config.default i.opcode (i.operand.bytes.getD 0 0) (i.operand.bytes.getD 1 0) = some i

/-- A three-byte form decodes back because its two operand bytes form its operand again (R54). -/
theorem of_word (mk : Word → Instr) (w : Word) : some (mk (wordOf (hiByte w) (loByte w))) = some (mk w) :=
  congrArg (fun v => some (mk v)) (wordOf_hiByte_loByte w)

theorem adcImm (v : Byte) : Statement (.adcImm v) :=
  show decodeWindow Config.default 0x69 v 0 = some (.adcImm v) from rfl
theorem adcZp (b : Byte) : Statement (.adcZp b) :=
  show decodeWindow Config.default 0x65 b 0 = some (.adcZp b) from rfl
theorem adcZpx (b : Byte) : Statement (.adcZpx b) :=
  show decodeWindow Config.default 0x75 b 0 = some (.adcZpx b) from rfl
theorem adcAbs (w : Word) : Statement (.adcAbs w) :=
  show decodeWindow Config.default 0x6D (loByte w) (hiByte w) = some (.adcAbs w) from of_word .adcAbs w
theorem adcAbx (w : Word) : Statement (.adcAbx w) :=
  show decodeWindow Config.default 0x7D (loByte w) (hiByte w) = some (.adcAbx w) from of_word .adcAbx w
theorem adcAby (w : Word) : Statement (.adcAby w) :=
  show decodeWindow Config.default 0x79 (loByte w) (hiByte w) = some (.adcAby w) from of_word .adcAby w
theorem adcIzx (b : Byte) : Statement (.adcIzx b) :=
  show decodeWindow Config.default 0x61 b 0 = some (.adcIzx b) from rfl
theorem adcIzy (b : Byte) : Statement (.adcIzy b) :=
  show decodeWindow Config.default 0x71 b 0 = some (.adcIzy b) from rfl
theorem andImm (v : Byte) : Statement (.andImm v) :=
  show decodeWindow Config.default 0x29 v 0 = some (.andImm v) from rfl
theorem andZp (b : Byte) : Statement (.andZp b) :=
  show decodeWindow Config.default 0x25 b 0 = some (.andZp b) from rfl
theorem andZpx (b : Byte) : Statement (.andZpx b) :=
  show decodeWindow Config.default 0x35 b 0 = some (.andZpx b) from rfl
theorem andAbs (w : Word) : Statement (.andAbs w) :=
  show decodeWindow Config.default 0x2D (loByte w) (hiByte w) = some (.andAbs w) from of_word .andAbs w
theorem andAbx (w : Word) : Statement (.andAbx w) :=
  show decodeWindow Config.default 0x3D (loByte w) (hiByte w) = some (.andAbx w) from of_word .andAbx w
theorem andAby (w : Word) : Statement (.andAby w) :=
  show decodeWindow Config.default 0x39 (loByte w) (hiByte w) = some (.andAby w) from of_word .andAby w
theorem andIzx (b : Byte) : Statement (.andIzx b) :=
  show decodeWindow Config.default 0x21 b 0 = some (.andIzx b) from rfl
theorem andIzy (b : Byte) : Statement (.andIzy b) :=
  show decodeWindow Config.default 0x31 b 0 = some (.andIzy b) from rfl
theorem aslAcc : Statement .aslAcc :=
  show decodeWindow Config.default 0x0A 0 0 = some .aslAcc from rfl
theorem aslZp (b : Byte) : Statement (.aslZp b) :=
  show decodeWindow Config.default 0x06 b 0 = some (.aslZp b) from rfl
theorem aslZpx (b : Byte) : Statement (.aslZpx b) :=
  show decodeWindow Config.default 0x16 b 0 = some (.aslZpx b) from rfl
theorem aslAbs (w : Word) : Statement (.aslAbs w) :=
  show decodeWindow Config.default 0x0E (loByte w) (hiByte w) = some (.aslAbs w) from of_word .aslAbs w
theorem aslAbx (w : Word) : Statement (.aslAbx w) :=
  show decodeWindow Config.default 0x1E (loByte w) (hiByte w) = some (.aslAbx w) from of_word .aslAbx w
theorem bcc (d : Byte) : Statement (.bcc d) :=
  show decodeWindow Config.default 0x90 d 0 = some (.bcc d) from rfl
theorem bcs (d : Byte) : Statement (.bcs d) :=
  show decodeWindow Config.default 0xB0 d 0 = some (.bcs d) from rfl
theorem beq (d : Byte) : Statement (.beq d) :=
  show decodeWindow Config.default 0xF0 d 0 = some (.beq d) from rfl
theorem bitZp (b : Byte) : Statement (.bitZp b) :=
  show decodeWindow Config.default 0x24 b 0 = some (.bitZp b) from rfl
theorem bitAbs (w : Word) : Statement (.bitAbs w) :=
  show decodeWindow Config.default 0x2C (loByte w) (hiByte w) = some (.bitAbs w) from of_word .bitAbs w
theorem bmi (d : Byte) : Statement (.bmi d) :=
  show decodeWindow Config.default 0x30 d 0 = some (.bmi d) from rfl
theorem bne (d : Byte) : Statement (.bne d) :=
  show decodeWindow Config.default 0xD0 d 0 = some (.bne d) from rfl
theorem bpl (d : Byte) : Statement (.bpl d) :=
  show decodeWindow Config.default 0x10 d 0 = some (.bpl d) from rfl
theorem brk : Statement .brk :=
  show decodeWindow Config.default 0x00 0 0 = some .brk from rfl
theorem bvc (d : Byte) : Statement (.bvc d) :=
  show decodeWindow Config.default 0x50 d 0 = some (.bvc d) from rfl
theorem bvs (d : Byte) : Statement (.bvs d) :=
  show decodeWindow Config.default 0x70 d 0 = some (.bvs d) from rfl
theorem clc : Statement .clc :=
  show decodeWindow Config.default 0x18 0 0 = some .clc from rfl
theorem cld : Statement .cld :=
  show decodeWindow Config.default 0xD8 0 0 = some .cld from rfl
theorem cli : Statement .cli :=
  show decodeWindow Config.default 0x58 0 0 = some .cli from rfl
theorem clv : Statement .clv :=
  show decodeWindow Config.default 0xB8 0 0 = some .clv from rfl
theorem cmpImm (v : Byte) : Statement (.cmpImm v) :=
  show decodeWindow Config.default 0xC9 v 0 = some (.cmpImm v) from rfl
theorem cmpZp (b : Byte) : Statement (.cmpZp b) :=
  show decodeWindow Config.default 0xC5 b 0 = some (.cmpZp b) from rfl
theorem cmpZpx (b : Byte) : Statement (.cmpZpx b) :=
  show decodeWindow Config.default 0xD5 b 0 = some (.cmpZpx b) from rfl
theorem cmpAbs (w : Word) : Statement (.cmpAbs w) :=
  show decodeWindow Config.default 0xCD (loByte w) (hiByte w) = some (.cmpAbs w) from of_word .cmpAbs w
theorem cmpAbx (w : Word) : Statement (.cmpAbx w) :=
  show decodeWindow Config.default 0xDD (loByte w) (hiByte w) = some (.cmpAbx w) from of_word .cmpAbx w
theorem cmpAby (w : Word) : Statement (.cmpAby w) :=
  show decodeWindow Config.default 0xD9 (loByte w) (hiByte w) = some (.cmpAby w) from of_word .cmpAby w
theorem cmpIzx (b : Byte) : Statement (.cmpIzx b) :=
  show decodeWindow Config.default 0xC1 b 0 = some (.cmpIzx b) from rfl
theorem cmpIzy (b : Byte) : Statement (.cmpIzy b) :=
  show decodeWindow Config.default 0xD1 b 0 = some (.cmpIzy b) from rfl
theorem cpxImm (v : Byte) : Statement (.cpxImm v) :=
  show decodeWindow Config.default 0xE0 v 0 = some (.cpxImm v) from rfl
theorem cpxZp (b : Byte) : Statement (.cpxZp b) :=
  show decodeWindow Config.default 0xE4 b 0 = some (.cpxZp b) from rfl
theorem cpxAbs (w : Word) : Statement (.cpxAbs w) :=
  show decodeWindow Config.default 0xEC (loByte w) (hiByte w) = some (.cpxAbs w) from of_word .cpxAbs w
theorem cpyImm (v : Byte) : Statement (.cpyImm v) :=
  show decodeWindow Config.default 0xC0 v 0 = some (.cpyImm v) from rfl
theorem cpyZp (b : Byte) : Statement (.cpyZp b) :=
  show decodeWindow Config.default 0xC4 b 0 = some (.cpyZp b) from rfl
theorem cpyAbs (w : Word) : Statement (.cpyAbs w) :=
  show decodeWindow Config.default 0xCC (loByte w) (hiByte w) = some (.cpyAbs w) from of_word .cpyAbs w
theorem decZp (b : Byte) : Statement (.decZp b) :=
  show decodeWindow Config.default 0xC6 b 0 = some (.decZp b) from rfl
theorem decZpx (b : Byte) : Statement (.decZpx b) :=
  show decodeWindow Config.default 0xD6 b 0 = some (.decZpx b) from rfl
theorem decAbs (w : Word) : Statement (.decAbs w) :=
  show decodeWindow Config.default 0xCE (loByte w) (hiByte w) = some (.decAbs w) from of_word .decAbs w
theorem decAbx (w : Word) : Statement (.decAbx w) :=
  show decodeWindow Config.default 0xDE (loByte w) (hiByte w) = some (.decAbx w) from of_word .decAbx w
theorem dex : Statement .dex :=
  show decodeWindow Config.default 0xCA 0 0 = some .dex from rfl
theorem dey : Statement .dey :=
  show decodeWindow Config.default 0x88 0 0 = some .dey from rfl
theorem eorImm (v : Byte) : Statement (.eorImm v) :=
  show decodeWindow Config.default 0x49 v 0 = some (.eorImm v) from rfl
theorem eorZp (b : Byte) : Statement (.eorZp b) :=
  show decodeWindow Config.default 0x45 b 0 = some (.eorZp b) from rfl
theorem eorZpx (b : Byte) : Statement (.eorZpx b) :=
  show decodeWindow Config.default 0x55 b 0 = some (.eorZpx b) from rfl
theorem eorAbs (w : Word) : Statement (.eorAbs w) :=
  show decodeWindow Config.default 0x4D (loByte w) (hiByte w) = some (.eorAbs w) from of_word .eorAbs w
theorem eorAbx (w : Word) : Statement (.eorAbx w) :=
  show decodeWindow Config.default 0x5D (loByte w) (hiByte w) = some (.eorAbx w) from of_word .eorAbx w
theorem eorAby (w : Word) : Statement (.eorAby w) :=
  show decodeWindow Config.default 0x59 (loByte w) (hiByte w) = some (.eorAby w) from of_word .eorAby w
theorem eorIzx (b : Byte) : Statement (.eorIzx b) :=
  show decodeWindow Config.default 0x41 b 0 = some (.eorIzx b) from rfl
theorem eorIzy (b : Byte) : Statement (.eorIzy b) :=
  show decodeWindow Config.default 0x51 b 0 = some (.eorIzy b) from rfl
theorem incZp (b : Byte) : Statement (.incZp b) :=
  show decodeWindow Config.default 0xE6 b 0 = some (.incZp b) from rfl
theorem incZpx (b : Byte) : Statement (.incZpx b) :=
  show decodeWindow Config.default 0xF6 b 0 = some (.incZpx b) from rfl
theorem incAbs (w : Word) : Statement (.incAbs w) :=
  show decodeWindow Config.default 0xEE (loByte w) (hiByte w) = some (.incAbs w) from of_word .incAbs w
theorem incAbx (w : Word) : Statement (.incAbx w) :=
  show decodeWindow Config.default 0xFE (loByte w) (hiByte w) = some (.incAbx w) from of_word .incAbx w
theorem inx : Statement .inx :=
  show decodeWindow Config.default 0xE8 0 0 = some .inx from rfl
theorem iny : Statement .iny :=
  show decodeWindow Config.default 0xC8 0 0 = some .iny from rfl
theorem jmpAbs (w : Word) : Statement (.jmpAbs w) :=
  show decodeWindow Config.default 0x4C (loByte w) (hiByte w) = some (.jmpAbs w) from of_word .jmpAbs w
theorem jmpInd (w : Word) : Statement (.jmpInd w) :=
  show decodeWindow Config.default 0x6C (loByte w) (hiByte w) = some (.jmpInd w) from of_word .jmpInd w
theorem jsr (w : Word) : Statement (.jsr w) :=
  show decodeWindow Config.default 0x20 (loByte w) (hiByte w) = some (.jsr w) from of_word .jsr w
theorem ldaImm (v : Byte) : Statement (.ldaImm v) :=
  show decodeWindow Config.default 0xA9 v 0 = some (.ldaImm v) from rfl
theorem ldaZp (b : Byte) : Statement (.ldaZp b) :=
  show decodeWindow Config.default 0xA5 b 0 = some (.ldaZp b) from rfl
theorem ldaZpx (b : Byte) : Statement (.ldaZpx b) :=
  show decodeWindow Config.default 0xB5 b 0 = some (.ldaZpx b) from rfl
theorem ldaAbs (w : Word) : Statement (.ldaAbs w) :=
  show decodeWindow Config.default 0xAD (loByte w) (hiByte w) = some (.ldaAbs w) from of_word .ldaAbs w
theorem ldaAbx (w : Word) : Statement (.ldaAbx w) :=
  show decodeWindow Config.default 0xBD (loByte w) (hiByte w) = some (.ldaAbx w) from of_word .ldaAbx w
theorem ldaAby (w : Word) : Statement (.ldaAby w) :=
  show decodeWindow Config.default 0xB9 (loByte w) (hiByte w) = some (.ldaAby w) from of_word .ldaAby w
theorem ldaIzx (b : Byte) : Statement (.ldaIzx b) :=
  show decodeWindow Config.default 0xA1 b 0 = some (.ldaIzx b) from rfl
theorem ldaIzy (b : Byte) : Statement (.ldaIzy b) :=
  show decodeWindow Config.default 0xB1 b 0 = some (.ldaIzy b) from rfl
theorem ldxImm (v : Byte) : Statement (.ldxImm v) :=
  show decodeWindow Config.default 0xA2 v 0 = some (.ldxImm v) from rfl
theorem ldxZp (b : Byte) : Statement (.ldxZp b) :=
  show decodeWindow Config.default 0xA6 b 0 = some (.ldxZp b) from rfl
theorem ldxZpy (b : Byte) : Statement (.ldxZpy b) :=
  show decodeWindow Config.default 0xB6 b 0 = some (.ldxZpy b) from rfl
theorem ldxAbs (w : Word) : Statement (.ldxAbs w) :=
  show decodeWindow Config.default 0xAE (loByte w) (hiByte w) = some (.ldxAbs w) from of_word .ldxAbs w
theorem ldxAby (w : Word) : Statement (.ldxAby w) :=
  show decodeWindow Config.default 0xBE (loByte w) (hiByte w) = some (.ldxAby w) from of_word .ldxAby w
theorem ldyImm (v : Byte) : Statement (.ldyImm v) :=
  show decodeWindow Config.default 0xA0 v 0 = some (.ldyImm v) from rfl
theorem ldyZp (b : Byte) : Statement (.ldyZp b) :=
  show decodeWindow Config.default 0xA4 b 0 = some (.ldyZp b) from rfl
theorem ldyZpx (b : Byte) : Statement (.ldyZpx b) :=
  show decodeWindow Config.default 0xB4 b 0 = some (.ldyZpx b) from rfl
theorem ldyAbs (w : Word) : Statement (.ldyAbs w) :=
  show decodeWindow Config.default 0xAC (loByte w) (hiByte w) = some (.ldyAbs w) from of_word .ldyAbs w
theorem ldyAbx (w : Word) : Statement (.ldyAbx w) :=
  show decodeWindow Config.default 0xBC (loByte w) (hiByte w) = some (.ldyAbx w) from of_word .ldyAbx w
theorem lsrAcc : Statement .lsrAcc :=
  show decodeWindow Config.default 0x4A 0 0 = some .lsrAcc from rfl
theorem lsrZp (b : Byte) : Statement (.lsrZp b) :=
  show decodeWindow Config.default 0x46 b 0 = some (.lsrZp b) from rfl
theorem lsrZpx (b : Byte) : Statement (.lsrZpx b) :=
  show decodeWindow Config.default 0x56 b 0 = some (.lsrZpx b) from rfl
theorem lsrAbs (w : Word) : Statement (.lsrAbs w) :=
  show decodeWindow Config.default 0x4E (loByte w) (hiByte w) = some (.lsrAbs w) from of_word .lsrAbs w
theorem lsrAbx (w : Word) : Statement (.lsrAbx w) :=
  show decodeWindow Config.default 0x5E (loByte w) (hiByte w) = some (.lsrAbx w) from of_word .lsrAbx w
theorem nop : Statement .nop :=
  show decodeWindow Config.default 0xEA 0 0 = some .nop from rfl
theorem oraImm (v : Byte) : Statement (.oraImm v) :=
  show decodeWindow Config.default 0x09 v 0 = some (.oraImm v) from rfl
theorem oraZp (b : Byte) : Statement (.oraZp b) :=
  show decodeWindow Config.default 0x05 b 0 = some (.oraZp b) from rfl
theorem oraZpx (b : Byte) : Statement (.oraZpx b) :=
  show decodeWindow Config.default 0x15 b 0 = some (.oraZpx b) from rfl
theorem oraAbs (w : Word) : Statement (.oraAbs w) :=
  show decodeWindow Config.default 0x0D (loByte w) (hiByte w) = some (.oraAbs w) from of_word .oraAbs w
theorem oraAbx (w : Word) : Statement (.oraAbx w) :=
  show decodeWindow Config.default 0x1D (loByte w) (hiByte w) = some (.oraAbx w) from of_word .oraAbx w
theorem oraAby (w : Word) : Statement (.oraAby w) :=
  show decodeWindow Config.default 0x19 (loByte w) (hiByte w) = some (.oraAby w) from of_word .oraAby w
theorem oraIzx (b : Byte) : Statement (.oraIzx b) :=
  show decodeWindow Config.default 0x01 b 0 = some (.oraIzx b) from rfl
theorem oraIzy (b : Byte) : Statement (.oraIzy b) :=
  show decodeWindow Config.default 0x11 b 0 = some (.oraIzy b) from rfl
theorem pha : Statement .pha :=
  show decodeWindow Config.default 0x48 0 0 = some .pha from rfl
theorem php : Statement .php :=
  show decodeWindow Config.default 0x08 0 0 = some .php from rfl
theorem pla : Statement .pla :=
  show decodeWindow Config.default 0x68 0 0 = some .pla from rfl
theorem plp : Statement .plp :=
  show decodeWindow Config.default 0x28 0 0 = some .plp from rfl
theorem rolAcc : Statement .rolAcc :=
  show decodeWindow Config.default 0x2A 0 0 = some .rolAcc from rfl
theorem rolZp (b : Byte) : Statement (.rolZp b) :=
  show decodeWindow Config.default 0x26 b 0 = some (.rolZp b) from rfl
theorem rolZpx (b : Byte) : Statement (.rolZpx b) :=
  show decodeWindow Config.default 0x36 b 0 = some (.rolZpx b) from rfl
theorem rolAbs (w : Word) : Statement (.rolAbs w) :=
  show decodeWindow Config.default 0x2E (loByte w) (hiByte w) = some (.rolAbs w) from of_word .rolAbs w
theorem rolAbx (w : Word) : Statement (.rolAbx w) :=
  show decodeWindow Config.default 0x3E (loByte w) (hiByte w) = some (.rolAbx w) from of_word .rolAbx w
theorem rorAcc : Statement .rorAcc :=
  show decodeWindow Config.default 0x6A 0 0 = some .rorAcc from rfl
theorem rorZp (b : Byte) : Statement (.rorZp b) :=
  show decodeWindow Config.default 0x66 b 0 = some (.rorZp b) from rfl
theorem rorZpx (b : Byte) : Statement (.rorZpx b) :=
  show decodeWindow Config.default 0x76 b 0 = some (.rorZpx b) from rfl
theorem rorAbs (w : Word) : Statement (.rorAbs w) :=
  show decodeWindow Config.default 0x6E (loByte w) (hiByte w) = some (.rorAbs w) from of_word .rorAbs w
theorem rorAbx (w : Word) : Statement (.rorAbx w) :=
  show decodeWindow Config.default 0x7E (loByte w) (hiByte w) = some (.rorAbx w) from of_word .rorAbx w
theorem rti : Statement .rti :=
  show decodeWindow Config.default 0x40 0 0 = some .rti from rfl
theorem rts : Statement .rts :=
  show decodeWindow Config.default 0x60 0 0 = some .rts from rfl
theorem sbcImm (v : Byte) : Statement (.sbcImm v) :=
  show decodeWindow Config.default 0xE9 v 0 = some (.sbcImm v) from rfl
theorem sbcZp (b : Byte) : Statement (.sbcZp b) :=
  show decodeWindow Config.default 0xE5 b 0 = some (.sbcZp b) from rfl
theorem sbcZpx (b : Byte) : Statement (.sbcZpx b) :=
  show decodeWindow Config.default 0xF5 b 0 = some (.sbcZpx b) from rfl
theorem sbcAbs (w : Word) : Statement (.sbcAbs w) :=
  show decodeWindow Config.default 0xED (loByte w) (hiByte w) = some (.sbcAbs w) from of_word .sbcAbs w
theorem sbcAbx (w : Word) : Statement (.sbcAbx w) :=
  show decodeWindow Config.default 0xFD (loByte w) (hiByte w) = some (.sbcAbx w) from of_word .sbcAbx w
theorem sbcAby (w : Word) : Statement (.sbcAby w) :=
  show decodeWindow Config.default 0xF9 (loByte w) (hiByte w) = some (.sbcAby w) from of_word .sbcAby w
theorem sbcIzx (b : Byte) : Statement (.sbcIzx b) :=
  show decodeWindow Config.default 0xE1 b 0 = some (.sbcIzx b) from rfl
theorem sbcIzy (b : Byte) : Statement (.sbcIzy b) :=
  show decodeWindow Config.default 0xF1 b 0 = some (.sbcIzy b) from rfl
theorem sec : Statement .sec :=
  show decodeWindow Config.default 0x38 0 0 = some .sec from rfl
theorem sed : Statement .sed :=
  show decodeWindow Config.default 0xF8 0 0 = some .sed from rfl
theorem sei : Statement .sei :=
  show decodeWindow Config.default 0x78 0 0 = some .sei from rfl
theorem staZp (b : Byte) : Statement (.staZp b) :=
  show decodeWindow Config.default 0x85 b 0 = some (.staZp b) from rfl
theorem staZpx (b : Byte) : Statement (.staZpx b) :=
  show decodeWindow Config.default 0x95 b 0 = some (.staZpx b) from rfl
theorem staAbs (w : Word) : Statement (.staAbs w) :=
  show decodeWindow Config.default 0x8D (loByte w) (hiByte w) = some (.staAbs w) from of_word .staAbs w
theorem staAbx (w : Word) : Statement (.staAbx w) :=
  show decodeWindow Config.default 0x9D (loByte w) (hiByte w) = some (.staAbx w) from of_word .staAbx w
theorem staAby (w : Word) : Statement (.staAby w) :=
  show decodeWindow Config.default 0x99 (loByte w) (hiByte w) = some (.staAby w) from of_word .staAby w
theorem staIzx (b : Byte) : Statement (.staIzx b) :=
  show decodeWindow Config.default 0x81 b 0 = some (.staIzx b) from rfl
theorem staIzy (b : Byte) : Statement (.staIzy b) :=
  show decodeWindow Config.default 0x91 b 0 = some (.staIzy b) from rfl
theorem stxZp (b : Byte) : Statement (.stxZp b) :=
  show decodeWindow Config.default 0x86 b 0 = some (.stxZp b) from rfl
theorem stxZpy (b : Byte) : Statement (.stxZpy b) :=
  show decodeWindow Config.default 0x96 b 0 = some (.stxZpy b) from rfl
theorem stxAbs (w : Word) : Statement (.stxAbs w) :=
  show decodeWindow Config.default 0x8E (loByte w) (hiByte w) = some (.stxAbs w) from of_word .stxAbs w
theorem styZp (b : Byte) : Statement (.styZp b) :=
  show decodeWindow Config.default 0x84 b 0 = some (.styZp b) from rfl
theorem styZpx (b : Byte) : Statement (.styZpx b) :=
  show decodeWindow Config.default 0x94 b 0 = some (.styZpx b) from rfl
theorem styAbs (w : Word) : Statement (.styAbs w) :=
  show decodeWindow Config.default 0x8C (loByte w) (hiByte w) = some (.styAbs w) from of_word .styAbs w
theorem tax : Statement .tax :=
  show decodeWindow Config.default 0xAA 0 0 = some .tax from rfl
theorem tay : Statement .tay :=
  show decodeWindow Config.default 0xA8 0 0 = some .tay from rfl
theorem tsx : Statement .tsx :=
  show decodeWindow Config.default 0xBA 0 0 = some .tsx from rfl
theorem txa : Statement .txa :=
  show decodeWindow Config.default 0x8A 0 0 = some .txa from rfl
theorem txs : Statement .txs :=
  show decodeWindow Config.default 0x9A 0 0 = some .txs from rfl
theorem tya : Statement .tya :=
  show decodeWindow Config.default 0x98 0 0 = some .tya from rfl

end Sys2Proof.Laws.DecodesBack
end

