-- ==== Sys2Proof/Tests/Slice0.lean ====
section
/-! SUPPORT. The tests of the model, each about one instruction or one step on a small state. The expected results of the decode
tests are the words of spec/opcode_table.json (30_encoding.md rule R86), those of the steps the rows of 95_test_vectors.md Part 2;
the witnesses show, for each obligation with hypotheses, states and operands that meet them all. -/

namespace Sys2Proof.Tests

open Machine Safety

/-- The reset state with another PC and with the cells listed written. -/
def start (pc : Word) (cells : List (Word × Byte)) : State :=
  cells.foldl (fun s c => s.writeByte c.1 c.2) { State.reset with pc := pc }

/-- What one step leaves, if it answers a next state. -/
def after {α : Type} (s : State) (look : State → α) : Option α :=
  match step s with
  | .next t => some (look t)
  | .fault _ => none
  | .refused _ => none

/-- What one instruction leaves, if it answers a next state. -/
def ran {α : Type} (i : Instr) (s : State) (look : State → α) : Option α :=
  match exec i s with
  | .next t => some (look t)
  | .fault _ => none
  | .refused _ => none

/-- Why one step stops, if it does. -/
def stopped (s : State) : Option Fault :=
  match step s with
  | .next _ => none
  | .fault r => some r
  | .refused _ => none

/-- The default configuration without the register transfers (R88). -/
def noTransfers : Config := { Config.default with xferPresent := false }

/-! ## The check of WellFormed (R88): each ill-formed term, refused -/

theorem test_wellFormed_refuses_transfers_when_absent :
    Instr.tax.wellFormed noTransfers = false ∧ Instr.tay.wellFormed noTransfers = false ∧
    Instr.txa.wellFormed noTransfers = false ∧ Instr.tya.wellFormed noTransfers = false := by decide

theorem test_wellFormed_accepts :
    Instr.tax.wellFormed .default = true ∧ Instr.tya.wellFormed .default = true ∧
    Instr.txs.wellFormed noTransfers = true ∧ (Instr.ldaImm 0xFF).wellFormed noTransfers = true := by decide

/-! ## Decoding: the word of every row of the opcode table -/

theorem test_decode_load_store_transfer_1 :
    decode .default [0xA1, 0x9C] = .instr (.ldaIzx 0x9C) [] ∧
    decode .default [0xA5, 0x9C] = .instr (.ldaZp 0x9C) [] ∧
    decode .default [0xA9, 0x9C] = .instr (.ldaImm 0x9C) [] ∧
    decode .default [0xAD, 0x34, 0x12] = .instr (.ldaAbs 0x1234) [] ∧
    decode .default [0xB1, 0x9C] = .instr (.ldaIzy 0x9C) [] ∧
    decode .default [0xB5, 0x9C] = .instr (.ldaZpx 0x9C) [] ∧
    decode .default [0xB9, 0x34, 0x12] = .instr (.ldaAby 0x1234) [] ∧
    decode .default [0xBD, 0x34, 0x12] = .instr (.ldaAbx 0x1234) [] ∧
    decode .default [0xA2, 0x9C] = .instr (.ldxImm 0x9C) [] ∧
    decode .default [0xA6, 0x9C] = .instr (.ldxZp 0x9C) [] ∧
    decode .default [0xAE, 0x34, 0x12] = .instr (.ldxAbs 0x1234) [] ∧
    decode .default [0xB6, 0x9C] = .instr (.ldxZpy 0x9C) [] ∧
    decode .default [0xBE, 0x34, 0x12] = .instr (.ldxAby 0x1234) [] ∧
    decode .default [0xA0, 0x9C] = .instr (.ldyImm 0x9C) [] ∧
    decode .default [0xA4, 0x9C] = .instr (.ldyZp 0x9C) [] ∧
    decode .default [0xAC, 0x34, 0x12] = .instr (.ldyAbs 0x1234) [] ∧
    decode .default [0xB4, 0x9C] = .instr (.ldyZpx 0x9C) [] ∧
    decode .default [0xBC, 0x34, 0x12] = .instr (.ldyAbx 0x1234) [] ∧
    decode .default [0x81, 0x9C] = .instr (.staIzx 0x9C) [] ∧
    decode .default [0x85, 0x9C] = .instr (.staZp 0x9C) [] ∧
    decode .default [0x8D, 0x34, 0x12] = .instr (.staAbs 0x1234) [] ∧
    decode .default [0x91, 0x9C] = .instr (.staIzy 0x9C) [] ∧
    decode .default [0x95, 0x9C] = .instr (.staZpx 0x9C) [] ∧
    decode .default [0x99, 0x34, 0x12] = .instr (.staAby 0x1234) [] := by decide

theorem test_decode_load_store_transfer_2 :
    decode .default [0x9D, 0x34, 0x12] = .instr (.staAbx 0x1234) [] ∧
    decode .default [0x86, 0x9C] = .instr (.stxZp 0x9C) [] ∧
    decode .default [0x8E, 0x34, 0x12] = .instr (.stxAbs 0x1234) [] ∧
    decode .default [0x96, 0x9C] = .instr (.stxZpy 0x9C) [] ∧
    decode .default [0x84, 0x9C] = .instr (.styZp 0x9C) [] ∧
    decode .default [0x8C, 0x34, 0x12] = .instr (.styAbs 0x1234) [] ∧
    decode .default [0x94, 0x9C] = .instr (.styZpx 0x9C) [] ∧
    decode .default [0xAA] = .instr .tax [] ∧
    decode .default [0xA8] = .instr .tay [] ∧
    decode .default [0x8A] = .instr .txa [] ∧
    decode .default [0x98] = .instr .tya [] := by decide

theorem test_decode_arith_logic_compare_1 :
    decode .default [0x61, 0x9C] = .instr (.adcIzx 0x9C) [] ∧
    decode .default [0x65, 0x9C] = .instr (.adcZp 0x9C) [] ∧
    decode .default [0x69, 0x9C] = .instr (.adcImm 0x9C) [] ∧
    decode .default [0x6D, 0x34, 0x12] = .instr (.adcAbs 0x1234) [] ∧
    decode .default [0x71, 0x9C] = .instr (.adcIzy 0x9C) [] ∧
    decode .default [0x75, 0x9C] = .instr (.adcZpx 0x9C) [] ∧
    decode .default [0x79, 0x34, 0x12] = .instr (.adcAby 0x1234) [] ∧
    decode .default [0x7D, 0x34, 0x12] = .instr (.adcAbx 0x1234) [] ∧
    decode .default [0x21, 0x9C] = .instr (.andIzx 0x9C) [] ∧
    decode .default [0x25, 0x9C] = .instr (.andZp 0x9C) [] ∧
    decode .default [0x29, 0x9C] = .instr (.andImm 0x9C) [] ∧
    decode .default [0x2D, 0x34, 0x12] = .instr (.andAbs 0x1234) [] ∧
    decode .default [0x31, 0x9C] = .instr (.andIzy 0x9C) [] ∧
    decode .default [0x35, 0x9C] = .instr (.andZpx 0x9C) [] ∧
    decode .default [0x39, 0x34, 0x12] = .instr (.andAby 0x1234) [] ∧
    decode .default [0x3D, 0x34, 0x12] = .instr (.andAbx 0x1234) [] ∧
    decode .default [0x24, 0x9C] = .instr (.bitZp 0x9C) [] ∧
    decode .default [0x2C, 0x34, 0x12] = .instr (.bitAbs 0x1234) [] ∧
    decode .default [0xC1, 0x9C] = .instr (.cmpIzx 0x9C) [] ∧
    decode .default [0xC5, 0x9C] = .instr (.cmpZp 0x9C) [] ∧
    decode .default [0xC9, 0x9C] = .instr (.cmpImm 0x9C) [] ∧
    decode .default [0xCD, 0x34, 0x12] = .instr (.cmpAbs 0x1234) [] ∧
    decode .default [0xD1, 0x9C] = .instr (.cmpIzy 0x9C) [] ∧
    decode .default [0xD5, 0x9C] = .instr (.cmpZpx 0x9C) [] := by decide

theorem test_decode_arith_logic_compare_2 :
    decode .default [0xD9, 0x34, 0x12] = .instr (.cmpAby 0x1234) [] ∧
    decode .default [0xDD, 0x34, 0x12] = .instr (.cmpAbx 0x1234) [] ∧
    decode .default [0xE0, 0x9C] = .instr (.cpxImm 0x9C) [] ∧
    decode .default [0xE4, 0x9C] = .instr (.cpxZp 0x9C) [] ∧
    decode .default [0xEC, 0x34, 0x12] = .instr (.cpxAbs 0x1234) [] ∧
    decode .default [0xC0, 0x9C] = .instr (.cpyImm 0x9C) [] ∧
    decode .default [0xC4, 0x9C] = .instr (.cpyZp 0x9C) [] ∧
    decode .default [0xCC, 0x34, 0x12] = .instr (.cpyAbs 0x1234) [] ∧
    decode .default [0x41, 0x9C] = .instr (.eorIzx 0x9C) [] ∧
    decode .default [0x45, 0x9C] = .instr (.eorZp 0x9C) [] ∧
    decode .default [0x49, 0x9C] = .instr (.eorImm 0x9C) [] ∧
    decode .default [0x4D, 0x34, 0x12] = .instr (.eorAbs 0x1234) [] ∧
    decode .default [0x51, 0x9C] = .instr (.eorIzy 0x9C) [] ∧
    decode .default [0x55, 0x9C] = .instr (.eorZpx 0x9C) [] ∧
    decode .default [0x59, 0x34, 0x12] = .instr (.eorAby 0x1234) [] ∧
    decode .default [0x5D, 0x34, 0x12] = .instr (.eorAbx 0x1234) [] ∧
    decode .default [0x01, 0x9C] = .instr (.oraIzx 0x9C) [] ∧
    decode .default [0x05, 0x9C] = .instr (.oraZp 0x9C) [] ∧
    decode .default [0x09, 0x9C] = .instr (.oraImm 0x9C) [] ∧
    decode .default [0x0D, 0x34, 0x12] = .instr (.oraAbs 0x1234) [] ∧
    decode .default [0x11, 0x9C] = .instr (.oraIzy 0x9C) [] ∧
    decode .default [0x15, 0x9C] = .instr (.oraZpx 0x9C) [] ∧
    decode .default [0x19, 0x34, 0x12] = .instr (.oraAby 0x1234) [] ∧
    decode .default [0x1D, 0x34, 0x12] = .instr (.oraAbx 0x1234) [] := by decide

theorem test_decode_arith_logic_compare_3 :
    decode .default [0xE1, 0x9C] = .instr (.sbcIzx 0x9C) [] ∧
    decode .default [0xE5, 0x9C] = .instr (.sbcZp 0x9C) [] ∧
    decode .default [0xE9, 0x9C] = .instr (.sbcImm 0x9C) [] ∧
    decode .default [0xED, 0x34, 0x12] = .instr (.sbcAbs 0x1234) [] ∧
    decode .default [0xF1, 0x9C] = .instr (.sbcIzy 0x9C) [] ∧
    decode .default [0xF5, 0x9C] = .instr (.sbcZpx 0x9C) [] ∧
    decode .default [0xF9, 0x34, 0x12] = .instr (.sbcAby 0x1234) [] ∧
    decode .default [0xFD, 0x34, 0x12] = .instr (.sbcAbx 0x1234) [] := by decide

theorem test_decode_shift_incdec_1 :
    decode .default [0x06, 0x9C] = .instr (.aslZp 0x9C) [] ∧
    decode .default [0x0A] = .instr .aslAcc [] ∧
    decode .default [0x0E, 0x34, 0x12] = .instr (.aslAbs 0x1234) [] ∧
    decode .default [0x16, 0x9C] = .instr (.aslZpx 0x9C) [] ∧
    decode .default [0x1E, 0x34, 0x12] = .instr (.aslAbx 0x1234) [] ∧
    decode .default [0xC6, 0x9C] = .instr (.decZp 0x9C) [] ∧
    decode .default [0xCE, 0x34, 0x12] = .instr (.decAbs 0x1234) [] ∧
    decode .default [0xD6, 0x9C] = .instr (.decZpx 0x9C) [] ∧
    decode .default [0xDE, 0x34, 0x12] = .instr (.decAbx 0x1234) [] ∧
    decode .default [0xCA] = .instr .dex [] ∧
    decode .default [0x88] = .instr .dey [] ∧
    decode .default [0xE6, 0x9C] = .instr (.incZp 0x9C) [] ∧
    decode .default [0xEE, 0x34, 0x12] = .instr (.incAbs 0x1234) [] ∧
    decode .default [0xF6, 0x9C] = .instr (.incZpx 0x9C) [] ∧
    decode .default [0xFE, 0x34, 0x12] = .instr (.incAbx 0x1234) [] ∧
    decode .default [0xE8] = .instr .inx [] ∧
    decode .default [0xC8] = .instr .iny [] ∧
    decode .default [0x46, 0x9C] = .instr (.lsrZp 0x9C) [] ∧
    decode .default [0x4A] = .instr .lsrAcc [] ∧
    decode .default [0x4E, 0x34, 0x12] = .instr (.lsrAbs 0x1234) [] ∧
    decode .default [0x56, 0x9C] = .instr (.lsrZpx 0x9C) [] ∧
    decode .default [0x5E, 0x34, 0x12] = .instr (.lsrAbx 0x1234) [] ∧
    decode .default [0x26, 0x9C] = .instr (.rolZp 0x9C) [] ∧
    decode .default [0x2A] = .instr .rolAcc [] := by decide

theorem test_decode_shift_incdec_2 :
    decode .default [0x2E, 0x34, 0x12] = .instr (.rolAbs 0x1234) [] ∧
    decode .default [0x36, 0x9C] = .instr (.rolZpx 0x9C) [] ∧
    decode .default [0x3E, 0x34, 0x12] = .instr (.rolAbx 0x1234) [] ∧
    decode .default [0x66, 0x9C] = .instr (.rorZp 0x9C) [] ∧
    decode .default [0x6A] = .instr .rorAcc [] ∧
    decode .default [0x6E, 0x34, 0x12] = .instr (.rorAbs 0x1234) [] ∧
    decode .default [0x76, 0x9C] = .instr (.rorZpx 0x9C) [] ∧
    decode .default [0x7E, 0x34, 0x12] = .instr (.rorAbx 0x1234) [] := by decide

theorem test_decode_control_transfer :
    decode .default [0x90, 0x9C] = .instr (.bcc 0x9C) [] ∧
    decode .default [0xB0, 0x9C] = .instr (.bcs 0x9C) [] ∧
    decode .default [0xF0, 0x9C] = .instr (.beq 0x9C) [] ∧
    decode .default [0x30, 0x9C] = .instr (.bmi 0x9C) [] ∧
    decode .default [0xD0, 0x9C] = .instr (.bne 0x9C) [] ∧
    decode .default [0x10, 0x9C] = .instr (.bpl 0x9C) [] ∧
    decode .default [0x50, 0x9C] = .instr (.bvc 0x9C) [] ∧
    decode .default [0x70, 0x9C] = .instr (.bvs 0x9C) [] ∧
    decode .default [0x4C, 0x34, 0x12] = .instr (.jmpAbs 0x1234) [] ∧
    decode .default [0x6C, 0x34, 0x12] = .instr (.jmpInd 0x1234) [] ∧
    decode .default [0x20, 0x34, 0x12] = .instr (.jsr 0x1234) [] ∧
    decode .default [0x60] = .instr .rts [] := by decide

theorem test_decode_stack_flags_system :
    decode .default [0x00] = .instr .brk [] ∧
    decode .default [0x18] = .instr .clc [] ∧
    decode .default [0xD8] = .instr .cld [] ∧
    decode .default [0x58] = .instr .cli [] ∧
    decode .default [0xB8] = .instr .clv [] ∧
    decode .default [0xEA] = .instr .nop [] ∧
    decode .default [0x48] = .instr .pha [] ∧
    decode .default [0x08] = .instr .php [] ∧
    decode .default [0x68] = .instr .pla [] ∧
    decode .default [0x28] = .instr .plp [] ∧
    decode .default [0x40] = .instr .rti [] ∧
    decode .default [0x38] = .instr .sec [] ∧
    decode .default [0xF8] = .instr .sed [] ∧
    decode .default [0x78] = .instr .sei [] ∧
    decode .default [0xBA] = .instr .tsx [] ∧
    decode .default [0x9A] = .instr .txs [] := by decide

theorem test_decode_truncated :
    decode .default [] = .truncated ∧ decode .default [0xA9] = .truncated ∧ decode .default [0x4C, 0x34] = .truncated := by decide

theorem test_decodeTableWord :
    decodeTableWord 24 0x12346C = some (.jmpInd 0x1234) ∧ decodeTableWord 8 0xEA = some .nop ∧
    decodeTableWord 8 0xFF = none := by decide

/-! ## One step: the vectors of 95_test_vectors.md, sections 2.1 to 2.6 -/

theorem test_lda :
    after { start 0x8000 [(0x8000, 0xA9), (0x8001, 0x00)] with a := 0x55, p := 0x80 }
      (fun t => (t.a, t.p, t.pc)) = some (0x00, 0x02, 0x8002) ∧
    after { start 0x8000 [(0x8000, 0xA9), (0x8001, 0x80)] with p := 0x02 }
      (fun t => (t.a, t.p, t.pc)) = some (0x80, 0x80, 0x8002) ∧
    after { start 0x8000 [(0x8000, 0xA5), (0x8001, 0x10), (0x0010, 0x7F)] with p := 0xC3 }
      (fun t => (t.a, t.p, t.pc)) = some (0x7F, 0x41, 0x8002) ∧
    after { start 0x8000 [(0x8000, 0xB5), (0x8001, 0xFF), (0x0001, 0xAA), (0x0101, 0xBB)] with x := 0x02 }
      (fun t => (t.a, t.p, t.pc)) = some (0xAA, 0x80, 0x8002) ∧
    after (start 0x8000 [(0x8000, 0xAD), (0x8001, 0x34), (0x8002, 0x12), (0x1234, 0x01)])
      (fun t => (t.a, t.p, t.pc)) = some (0x01, 0x00, 0x8003) ∧
    after { start 0x8000 [(0x8000, 0xBD), (0x8001, 0xFF), (0x8002, 0x12), (0x1300, 0x99)] with x := 0x01 }
      (fun t => (t.a, t.p, t.pc)) = some (0x99, 0x80, 0x8003) := by decide

theorem test_lda_more :
    after { start 0x8000 [(0x8000, 0xB9), (0x8001, 0xFF), (0x8002, 0xFF), (0x0001, 0x42)] with y := 0x02 }
      (fun t => (t.a, t.p, t.pc)) = some (0x42, 0x00, 0x8003) ∧
    after { start 0x8000 [(0x8000, 0xA1), (0x8001, 0xFE), (0x0001, 0x34), (0x0002, 0x12), (0x1234, 0x77)] with x := 0x03 }
      (fun t => (t.a, t.p, t.pc)) = some (0x77, 0x00, 0x8002) ∧
    after (start 0x8000 [(0x8000, 0xA1), (0x8001, 0xFF), (0x0000, 0x12), (0x00FF, 0x34), (0x0100, 0x56), (0x1234, 0x77), (0x5634, 0x88)])
      (fun t => (t.a, t.p, t.pc)) = some (0x77, 0x00, 0x8002) ∧
    after { start 0x8000 [(0x8000, 0xA1), (0x8001, 0xFF), (0x0000, 0x12), (0x00FF, 0x34), (0x0100, 0x56), (0x1234, 0x77), (0x5634, 0x88)] with config := { Config.default with zpPtrWrap := false } }
      (fun t => (t.a, t.p, t.pc)) = some (0x88, 0x80, 0x8002) ∧
    after { start 0x8000 [(0x8000, 0xB1), (0x8001, 0x10), (0x0010, 0xFE), (0x0011, 0x12), (0x1303, 0x0F)] with y := 0x05 }
      (fun t => (t.a, t.p, t.pc)) = some (0x0F, 0x00, 0x8002) ∧
    after { start 0x8000 [(0x8000, 0xB1), (0x8001, 0x10), (0x0008, 0x81), (0x0010, 0xF8), (0x0011, 0xFF)] with y := 0x10 }
      (fun t => (t.a, t.p, t.pc)) = some (0x81, 0x80, 0x8002) := by decide

theorem test_lda_more_2 :
    after (start 0xFFFF [(0xFFFF, 0xAD), (0x0000, 0x34), (0x0001, 0x12), (0x1234, 0x5A)])
      (fun t => (t.a, t.p, t.pc)) = some (0x5A, 0x00, 0x0002) ∧
    after (start 0xFFFF [(0xFFFF, 0xA9), (0x0000, 0x80)])
      (fun t => (t.a, t.p, t.pc)) = some (0x80, 0x80, 0x0001) := by decide

theorem test_ldx :
    after (start 0x8000 [(0x8000, 0xA2), (0x8001, 0xFF)])
      (fun t => (t.x, t.p, t.pc)) = some (0xFF, 0x80, 0x8002) ∧
    after { start 0x8000 [(0x8000, 0xB6), (0x8001, 0xF0), (0x0010, 0x00)] with y := 0x20, p := 0x80 }
      (fun t => (t.p, t.pc)) = some (0x02, 0x8002) ∧
    after { start 0x8000 [(0x8000, 0xBE), (0x8001, 0x00), (0x8002, 0x02), (0x0201, 0x33)] with y := 0x01 }
      (fun t => (t.x, t.p, t.pc)) = some (0x33, 0x00, 0x8003) := by decide

theorem test_ldy :
    after { start 0x8000 [(0x8000, 0xA0), (0x8001, 0x00)] with y := 0x01 }
      (fun t => (t.y, t.p, t.pc)) = some (0x00, 0x02, 0x8002) ∧
    after { start 0x8000 [(0x8000, 0xB4), (0x8001, 0x80), (0x0000, 0x90)] with x := 0x80 }
      (fun t => (t.y, t.p, t.pc)) = some (0x90, 0x80, 0x8002) ∧
    after { start 0x8000 [(0x8000, 0xBC), (0x8001, 0x00), (0x8002, 0x03), (0x03FF, 0x11)] with x := 0xFF }
      (fun t => (t.y, t.p, t.pc)) = some (0x11, 0x00, 0x8003) := by decide

theorem test_sta :
    after { start 0x8000 [(0x8000, 0x85), (0x8001, 0x10)] with a := 0x42, p := 0x83 }
      (fun t => (t.p, t.pc, t.readByte 0x0010)) = some (0x83, 0x8002, 0x42) ∧
    after { start 0x8000 [(0x8000, 0x8D), (0x8001, 0x00), (0x8002, 0x02), (0x0200, 0xEE)] with p := 0x80 }
      (fun t => (t.p, t.pc, t.readByte 0x0200)) = some (0x80, 0x8003, 0x00) ∧
    after { start 0x8000 [(0x8000, 0x9D), (0x8001, 0xF0), (0x8002, 0x01)] with a := 0x5A, x := 0x20 }
      (fun t => (t.p, t.pc, t.readByte 0x0210)) = some (0x00, 0x8003, 0x5A) ∧
    after { start 0x8000 [(0x8000, 0x99), (0x8001, 0x00), (0x8002, 0xFF)] with a := 0x5A, y := 0xFF }
      (fun t => (t.p, t.pc, t.readByte 0xFFFF)) = some (0x00, 0x8003, 0x5A) ∧
    after { start 0x8000 [(0x8000, 0x81), (0x8001, 0x20), (0x0024, 0x00), (0x0025, 0x03)] with a := 0x66, x := 0x04 }
      (fun t => (t.p, t.pc, t.readByte 0x0300)) = some (0x00, 0x8002, 0x66) ∧
    after { start 0x8000 [(0x8000, 0x91), (0x8001, 0x20), (0x0020, 0x00), (0x0021, 0x03)] with a := 0x66, y := 0x04 }
      (fun t => (t.p, t.pc, t.readByte 0x0304)) = some (0x00, 0x8002, 0x66) := by decide

theorem test_stx :
    after { start 0x8000 [(0x8000, 0x86), (0x8001, 0x10)] with x := 0x11 }
      (fun t => (t.p, t.pc, t.readByte 0x0010)) = some (0x00, 0x8002, 0x11) ∧
    after { start 0x8000 [(0x8000, 0x96), (0x8001, 0xF0)] with x := 0x11, y := 0x20 }
      (fun t => (t.p, t.pc, t.readByte 0x0010)) = some (0x00, 0x8002, 0x11) ∧
    after { start 0x8000 [(0x8000, 0x8E), (0x8001, 0x34), (0x8002, 0x12)] with x := 0x80 }
      (fun t => (t.p, t.pc, t.readByte 0x1234)) = some (0x00, 0x8003, 0x80) := by decide

theorem test_sty :
    after { start 0x8000 [(0x8000, 0x84), (0x8001, 0x20)] with y := 0x99 }
      (fun t => (t.p, t.pc, t.readByte 0x0020)) = some (0x00, 0x8002, 0x99) ∧
    after { start 0x8000 [(0x8000, 0x94), (0x8001, 0xFF)] with x := 0x01, y := 0x99 }
      (fun t => (t.p, t.pc, t.readByte 0x0000)) = some (0x00, 0x8002, 0x99) ∧
    after { start 0x8000 [(0x8000, 0x8C), (0x8001, 0x34), (0x8002, 0x12)] with y := 0x01 }
      (fun t => (t.p, t.pc, t.readByte 0x1234)) = some (0x00, 0x8003, 0x01) := by decide

theorem test_tax :
    after { start 0x8000 [(0x8000, 0xAA)] with a := 0x80, x := 0x01 }
      (fun t => (t.x, t.p, t.pc)) = some (0x80, 0x80, 0x8001) := by decide

theorem test_tay :
    after { start 0x8000 [(0x8000, 0xA8)] with y := 0x05, p := 0x80 }
      (fun t => (t.y, t.p, t.pc)) = some (0x00, 0x02, 0x8001) := by decide

theorem test_txa :
    after { start 0x8000 [(0x8000, 0x8A)] with a := 0xFF, x := 0x7F, p := 0x82 }
      (fun t => (t.a, t.p, t.pc)) = some (0x7F, 0x00, 0x8001) := by decide

theorem test_tya :
    after { start 0x8000 [(0x8000, 0x98)] with y := 0xFF }
      (fun t => (t.a, t.p, t.pc)) = some (0xFF, 0x80, 0x8001) := by decide

theorem test_adc :
    after { start 0x8000 [(0x8000, 0x69), (0x8001, 0x50)] with a := 0x50 }
      (fun t => (t.a, t.p, t.pc)) = some (0xA0, 0xC0, 0x8002) ∧
    after { start 0x8000 [(0x8000, 0x69), (0x8001, 0x01)] with a := 0xFF }
      (fun t => (t.a, t.p, t.pc)) = some (0x00, 0x03, 0x8002) ∧
    after { start 0x8000 [(0x8000, 0x69), (0x8001, 0x01)] with a := 0x7F }
      (fun t => (t.a, t.p, t.pc)) = some (0x80, 0xC0, 0x8002) ∧
    after { start 0x8000 [(0x8000, 0x69), (0x8001, 0x80)] with a := 0x80 }
      (fun t => (t.a, t.p, t.pc)) = some (0x00, 0x43, 0x8002) ∧
    after { start 0x8000 [(0x8000, 0x69), (0x8001, 0x00)] with a := 0x7F, p := 0x01 }
      (fun t => (t.a, t.p, t.pc)) = some (0x80, 0xC0, 0x8002) ∧
    after { start 0x8000 [(0x8000, 0x69), (0x8001, 0xFF)] with a := 0xFF, p := 0x01 }
      (fun t => (t.p, t.pc)) = some (0x81, 0x8002) := by decide

theorem test_adc_more :
    after { start 0x8000 [(0x8000, 0x69), (0x8001, 0x00)] with p := 0xC0 }
      (fun t => (t.p, t.pc)) = some (0x02, 0x8002) ∧
    after { start 0x8000 [(0x8000, 0x69), (0x8001, 0x09)] with a := 0x09, p := 0x08 }
      (fun t => (t.a, t.p, t.pc)) = some (0x12, 0x08, 0x8002) ∧
    after { start 0x8000 [(0x8000, 0x65), (0x8001, 0x10), (0x0010, 0x20)] with a := 0x10, p := 0x01 }
      (fun t => (t.a, t.p, t.pc)) = some (0x31, 0x00, 0x8002) := by decide

theorem test_sbc :
    after { start 0x8000 [(0x8000, 0xE9), (0x8001, 0xF0)] with a := 0x50, p := 0x01 }
      (fun t => (t.a, t.p, t.pc)) = some (0x60, 0x00, 0x8002) ∧
    after { start 0x8000 [(0x8000, 0xE9), (0x8001, 0xB0)] with a := 0x50, p := 0x01 }
      (fun t => (t.a, t.p, t.pc)) = some (0xA0, 0xC0, 0x8002) ∧
    after { start 0x8000 [(0x8000, 0xE9), (0x8001, 0x01)] with p := 0x01 }
      (fun t => (t.a, t.p, t.pc)) = some (0xFF, 0x80, 0x8002) ∧
    after { start 0x8000 [(0x8000, 0xE9), (0x8001, 0x01)] with a := 0x80, p := 0x01 }
      (fun t => (t.a, t.p, t.pc)) = some (0x7F, 0x41, 0x8002) ∧
    after { start 0x8000 [(0x8000, 0xE9), (0x8001, 0x40)] with a := 0x40, p := 0x01 }
      (fun t => (t.a, t.p, t.pc)) = some (0x00, 0x03, 0x8002) ∧
    after { start 0x8000 [(0x8000, 0xE9), (0x8001, 0x03)] with a := 0x05 }
      (fun t => (t.a, t.p, t.pc)) = some (0x01, 0x01, 0x8002) := by decide

theorem test_sbc_more :
    after (start 0x8000 [(0x8000, 0xE9), (0x8001, 0x00)])
      (fun t => (t.a, t.p, t.pc)) = some (0xFF, 0x80, 0x8002) ∧
    after { start 0x8000 [(0x8000, 0xE9), (0x8001, 0x01)] with a := 0x10, p := 0x09 }
      (fun t => (t.a, t.p, t.pc)) = some (0x0F, 0x09, 0x8002) := by decide

theorem test_and :
    after { start 0x8000 [(0x8000, 0x29), (0x8001, 0x0F)] with a := 0xF0 }
      (fun t => (t.a, t.p, t.pc)) = some (0x00, 0x02, 0x8002) ∧
    after { start 0x8000 [(0x8000, 0x29), (0x8001, 0xFF)] with a := 0x80, p := 0x43 }
      (fun t => (t.p, t.pc)) = some (0xC1, 0x8002) := by decide

theorem test_eor :
    after { start 0x8000 [(0x8000, 0x49), (0x8001, 0xFF)] with a := 0x0F }
      (fun t => (t.a, t.p, t.pc)) = some (0xF0, 0x80, 0x8002) ∧
    after { start 0x8000 [(0x8000, 0x49), (0x8001, 0x55)] with a := 0x55, p := 0x80 }
      (fun t => (t.a, t.p, t.pc)) = some (0x00, 0x02, 0x8002) := by decide

theorem test_ora :
    after { start 0x8000 [(0x8000, 0x09), (0x8001, 0x80)] with a := 0x01 }
      (fun t => (t.a, t.p, t.pc)) = some (0x81, 0x80, 0x8002) ∧
    after (start 0x8000 [(0x8000, 0x09), (0x8001, 0x00)])
      (fun t => (t.p, t.pc)) = some (0x02, 0x8002) := by decide

theorem test_bit :
    after { start 0x8000 [(0x8000, 0x24), (0x8001, 0x10), (0x0010, 0xC0)] with a := 0x0F }
      (fun t => (t.p, t.pc)) = some (0xC2, 0x8002) ∧
    after { start 0x8000 [(0x8000, 0x24), (0x8001, 0x10), (0x0010, 0x01)] with a := 0xFF, p := 0xC2 }
      (fun t => (t.p, t.pc)) = some (0x00, 0x8002) ∧
    after { start 0x8000 [(0x8000, 0x2C), (0x8001, 0x00), (0x8002, 0x03), (0x0300, 0x40)] with p := 0x01 }
      (fun t => (t.p, t.pc)) = some (0x43, 0x8003) := by decide

theorem test_cmp :
    after { start 0x8000 [(0x8000, 0xC9), (0x8001, 0x41)] with a := 0x40 }
      (fun t => (t.p, t.pc)) = some (0x80, 0x8002) ∧
    after { start 0x8000 [(0x8000, 0xC9), (0x8001, 0x40)] with a := 0x40, p := 0x80 }
      (fun t => (t.p, t.pc)) = some (0x03, 0x8002) ∧
    after { start 0x8000 [(0x8000, 0xC9), (0x8001, 0x00)] with a := 0x80, p := 0x40 }
      (fun t => (t.p, t.pc)) = some (0xC1, 0x8002) ∧
    after (start 0x8000 [(0x8000, 0xC9), (0x8001, 0x80)])
      (fun t => (t.p, t.pc)) = some (0x80, 0x8002) ∧
    after { start 0x8000 [(0x8000, 0xC9), (0x8001, 0x01)] with a := 0xFF, p := 0x01 }
      (fun t => (t.p, t.pc)) = some (0x81, 0x8002) := by decide

theorem test_cpx :
    after { start 0x8000 [(0x8000, 0xE0), (0x8001, 0x0A)] with x := 0x0A }
      (fun t => (t.p, t.pc)) = some (0x03, 0x8002) ∧
    after { start 0x8000 [(0x8000, 0xE4), (0x8001, 0x10), (0x0010, 0x02)] with x := 0x01 }
      (fun t => (t.p, t.pc)) = some (0x80, 0x8002) := by decide

theorem test_cpy :
    after { start 0x8000 [(0x8000, 0xC0), (0x8001, 0x10)] with y := 0x20 }
      (fun t => (t.p, t.pc)) = some (0x01, 0x8002) ∧
    after (start 0x8000 [(0x8000, 0xCC), (0x8001, 0x00), (0x8002, 0x02), (0x0200, 0x00)])
      (fun t => (t.p, t.pc)) = some (0x03, 0x8003) := by decide

theorem test_asl :
    after { start 0x8000 [(0x8000, 0x0A)] with a := 0x81 }
      (fun t => (t.a, t.p, t.pc)) = some (0x02, 0x01, 0x8001) ∧
    after { start 0x8000 [(0x8000, 0x0A)] with a := 0x80, p := 0x01 }
      (fun t => (t.a, t.p, t.pc)) = some (0x00, 0x03, 0x8001) ∧
    after { start 0x8000 [(0x8000, 0x0A)] with a := 0x40, p := 0x01 }
      (fun t => (t.a, t.p, t.pc)) = some (0x80, 0x80, 0x8001) ∧
    after { start 0x8000 [(0x8000, 0x06), (0x8001, 0x00), (0x0000, 0x55)] with a := 0x33 }
      (fun t => (t.p, t.pc, t.readByte 0x0000)) = some (0x80, 0x8002, 0xAA) := by decide

theorem test_lsr :
    after { start 0x8000 [(0x8000, 0x4A)] with a := 0x01, p := 0x80 }
      (fun t => (t.a, t.p, t.pc)) = some (0x00, 0x03, 0x8001) ∧
    after (start 0x8000 [(0x8000, 0x46), (0x8001, 0x10), (0x0010, 0x03)])
      (fun t => (t.p, t.pc, t.readByte 0x0010)) = some (0x01, 0x8002, 0x01) ∧
    after { start 0x8000 [(0x8000, 0x4A), (0x0000, 0x77)] with a := 0xFF }
      (fun t => (t.a, t.p, t.pc)) = some (0x7F, 0x01, 0x8001) := by decide

theorem test_rol :
    after { start 0x8000 [(0x8000, 0x2A)] with a := 0x40, p := 0x01 }
      (fun t => (t.a, t.p, t.pc)) = some (0x81, 0x80, 0x8001) ∧
    after { start 0x8000 [(0x8000, 0x2A)] with a := 0x80 }
      (fun t => (t.a, t.p, t.pc)) = some (0x00, 0x03, 0x8001) ∧
    after { start 0x8000 [(0x8000, 0x2E), (0x8001, 0x00), (0x8002, 0x02), (0x0200, 0x00)] with p := 0x01 }
      (fun t => (t.p, t.pc, t.readByte 0x0200)) = some (0x00, 0x8003, 0x01) := by decide

theorem test_ror :
    after { start 0x8000 [(0x8000, 0x6A)] with a := 0x01, p := 0x01 }
      (fun t => (t.a, t.p, t.pc)) = some (0x80, 0x81, 0x8001) ∧
    after { start 0x8000 [(0x8000, 0x6A)] with a := 0x01 }
      (fun t => (t.a, t.p, t.pc)) = some (0x00, 0x03, 0x8001) ∧
    after { start 0x8000 [(0x8000, 0x76), (0x8001, 0x10), (0x0011, 0x00)] with x := 0x01, p := 0x01 }
      (fun t => (t.p, t.pc, t.readByte 0x0011)) = some (0x80, 0x8002, 0x80) := by decide

theorem test_inc :
    after { start 0x8000 [(0x8000, 0xE6), (0x8001, 0x10), (0x0010, 0xFF)] with p := 0x01 }
      (fun t => (t.p, t.pc, t.readByte 0x0010)) = some (0x03, 0x8002, 0x00) ∧
    after { start 0x8000 [(0x8000, 0xEE), (0x8001, 0x00), (0x8002, 0x02), (0x0200, 0x7F)] with p := 0x40 }
      (fun t => (t.p, t.pc, t.readByte 0x0200)) = some (0xC0, 0x8003, 0x80) := by decide

theorem test_dec :
    after (start 0x8000 [(0x8000, 0xC6), (0x8001, 0x10), (0x0010, 0x01)])
      (fun t => (t.p, t.pc, t.readByte 0x0010)) = some (0x02, 0x8002, 0x00) ∧
    after (start 0x8000 [(0x8000, 0xCE), (0x8001, 0x00), (0x8002, 0x02), (0x0200, 0x00)])
      (fun t => (t.p, t.pc, t.readByte 0x0200)) = some (0x80, 0x8003, 0xFF) ∧
    after { start 0x8000 [(0x8000, 0xDE), (0x8001, 0x00), (0x8002, 0x02), (0x0210, 0x80)] with x := 0x10 }
      (fun t => (t.p, t.pc, t.readByte 0x0210)) = some (0x00, 0x8003, 0x7F) := by decide

theorem test_inx :
    after { start 0x8000 [(0x8000, 0xE8)] with x := 0xFF }
      (fun t => (t.x, t.p, t.pc)) = some (0x00, 0x02, 0x8001) := by decide

theorem test_iny :
    after { start 0x8000 [(0x8000, 0xC8)] with y := 0x7F }
      (fun t => (t.y, t.p, t.pc)) = some (0x80, 0x80, 0x8001) := by decide

theorem test_dex :
    after { start 0x8000 [(0x8000, 0xCA)] with x := 0x01 }
      (fun t => (t.x, t.p, t.pc)) = some (0x00, 0x02, 0x8001) ∧
    after (start 0x8000 [(0x8000, 0xCA)])
      (fun t => (t.x, t.p, t.pc)) = some (0xFF, 0x80, 0x8001) := by decide

theorem test_dey :
    after (start 0x8000 [(0x8000, 0x88)])
      (fun t => (t.y, t.p, t.pc)) = some (0xFF, 0x80, 0x8001) := by decide

theorem test_beq :
    after { start 0x8000 [(0x8000, 0xF0), (0x8001, 0xFE)] with p := 0x02 }
      (fun t => (t.p, t.pc)) = some (0x02, 0x8000) ∧
    after (start 0x8000 [(0x8000, 0xF0), (0x8001, 0xFE)])
      (fun t => (t.p, t.pc)) = some (0x00, 0x8002) := by decide

theorem test_bne :
    after (start 0x800A [(0x800A, 0xD0), (0x800B, 0xF8)])
      (fun t => (t.p, t.pc)) = some (0x00, 0x8004) ∧
    after { start 0x800A [(0x800A, 0xD0), (0x800B, 0xF8)] with p := 0x02 }
      (fun t => (t.p, t.pc)) = some (0x02, 0x800C) := by decide

theorem test_bcc :
    after (start 0x8000 [(0x8000, 0x90), (0x8001, 0x04)])
      (fun t => (t.p, t.pc)) = some (0x00, 0x8006) ∧
    after { start 0x8000 [(0x8000, 0x90), (0x8001, 0x04)] with p := 0x01 }
      (fun t => (t.p, t.pc)) = some (0x01, 0x8002) := by decide

theorem test_bcs :
    after { start 0x8000 [(0x8000, 0xB0), (0x8001, 0x10)] with p := 0x01 }
      (fun t => (t.p, t.pc)) = some (0x01, 0x8012) := by decide

theorem test_bmi :
    after { start 0x8000 [(0x8000, 0x30), (0x8001, 0x80)] with p := 0x80 }
      (fun t => (t.p, t.pc)) = some (0x80, 0x7F82) := by decide

theorem test_bpl :
    after (start 0x8000 [(0x8000, 0x10), (0x8001, 0x7F)])
      (fun t => (t.p, t.pc)) = some (0x00, 0x8081) ∧
    after { start 0x8000 [(0x8000, 0x10), (0x8001, 0x7F)] with p := 0x80 }
      (fun t => (t.p, t.pc)) = some (0x80, 0x8002) := by decide

theorem test_bvc :
    after { start 0x8000 [(0x8000, 0x50), (0x8001, 0x00)] with p := 0x40 }
      (fun t => (t.p, t.pc)) = some (0x40, 0x8002) := by decide

theorem test_bvs :
    after { start 0xFFFC [(0xFFFC, 0x70), (0xFFFD, 0x05)] with p := 0x40 }
      (fun t => (t.p, t.pc)) = some (0x40, 0x0003) := by decide

theorem test_jmp :
    after { start 0x8000 [(0x8000, 0x4C), (0x8001, 0x34), (0x8002, 0x12)] with p := 0xFF }
      (fun t => (t.p, t.pc)) = some (0xFF, 0x1234) ∧
    after (start 0x8000 [(0x8000, 0x4C), (0x8001, 0x00), (0x8002, 0x80)])
      (fun t => (t.p, t.pc)) = some (0x00, 0x8000) ∧
    after (start 0x8000 [(0x8000, 0x6C), (0x8001, 0x00), (0x8002, 0x03), (0x0300, 0x78), (0x0301, 0x56)])
      (fun t => (t.p, t.pc)) = some (0x00, 0x5678) ∧
    after (start 0x8000 [(0x8000, 0x6C), (0x8001, 0xFF), (0x8002, 0x12), (0x1200, 0x9A), (0x12FF, 0x78), (0x1300, 0x56)])
      (fun t => (t.p, t.pc)) = some (0x00, 0x5678) ∧
    after { start 0x8000 [(0x8000, 0x6C), (0x8001, 0xFF), (0x8002, 0x12), (0x1200, 0x9A), (0x12FF, 0x78), (0x1300, 0x56)] with config := { Config.default with jmpIndPageWrap := true } }
      (fun t => (t.p, t.pc)) = some (0x00, 0x9A78) := by decide

theorem test_jsr :
    after (start 0x8000 [(0x8000, 0x20), (0x8001, 0x34), (0x8002, 0x12)])
      (fun t => (t.p, t.sp, t.pc, [t.readByte 0x01FE, t.readByte 0x01FF])) = some (0x00, 0xFD, 0x1234, [0x02, 0x80]) ∧
    after { start 0x80FF [(0x80FF, 0x20), (0x8100, 0x34), (0x8101, 0x12)] with sp := 0x00 }
      (fun t => (t.p, t.sp, t.pc, [t.readByte 0x0100, t.readByte 0x01FF])) = some (0x00, 0xFE, 0x1234, [0x81, 0x01]) ∧
    after (start 0x01FD [(0x01FD, 0x20), (0x01FE, 0x34), (0x01FF, 0x12)])
      (fun t => (t.p, t.sp, t.pc, [t.readByte 0x01FE, t.readByte 0x01FF])) = some (0x00, 0xFD, 0x1234, [0xFF, 0x01]) := by decide

theorem test_rts :
    after { start 0x1234 [(0x1234, 0x60), (0x01FE, 0x02), (0x01FF, 0x80)] with sp := 0xFD }
      (fun t => (t.p, t.sp, t.pc)) = some (0x00, 0xFF, 0x8003) ∧
    after { start 0x1234 [(0x1234, 0x60), (0x0100, 0xFF), (0x01FF, 0xFF)] with sp := 0xFE }
      (fun t => (t.p, t.sp, t.pc)) = some (0x00, 0x00, 0x0000) := by decide

theorem test_pha :
    after { start 0x8000 [(0x8000, 0x48)] with a := 0x42 }
      (fun t => (t.p, t.sp, t.pc, t.readByte 0x01FF)) = some (0x00, 0xFE, 0x8001, 0x42) ∧
    after { start 0x8000 [(0x8000, 0x48)] with a := 0x42, sp := 0x00 }
      (fun t => (t.p, t.sp, t.pc, t.readByte 0x0100)) = some (0x00, 0xFF, 0x8001, 0x42) := by decide

theorem test_pla :
    after { start 0x8000 [(0x8000, 0x68), (0x01FF, 0x00)] with a := 0x11, p := 0x80, sp := 0xFE }
      (fun t => (t.a, t.p, t.sp, t.pc)) = some (0x00, 0x02, 0xFF, 0x8001) ∧
    after (start 0x8000 [(0x8000, 0x68), (0x0100, 0x80)])
      (fun t => (t.a, t.p, t.sp, t.pc)) = some (0x80, 0x80, 0x00, 0x8001) := by decide

theorem test_php :
    after { start 0x8000 [(0x8000, 0x08)] with p := 0x83 }
      (fun t => (t.p, t.sp, t.pc, t.readByte 0x01FF)) = some (0x83, 0xFE, 0x8001, 0xB3) ∧
    after (start 0x8000 [(0x8000, 0x08)])
      (fun t => (t.p, t.sp, t.pc, t.readByte 0x01FF)) = some (0x00, 0xFE, 0x8001, 0x30) := by decide

theorem test_plp :
    after { start 0x8000 [(0x8000, 0x28), (0x01FF, 0xB3)] with sp := 0xFE }
      (fun t => (t.p, t.sp, t.pc)) = some (0xB3, 0xFF, 0x8001) ∧
    after { start 0x8000 [(0x8000, 0x28), (0x01FF, 0x00)] with p := 0xFF, sp := 0xFE }
      (fun t => (t.p, t.sp, t.pc)) = some (0x00, 0xFF, 0x8001) := by decide

theorem test_txs :
    after { start 0x8000 [(0x8000, 0x9A)] with x := 0x80, p := 0x02 }
      (fun t => (t.p, t.sp, t.pc)) = some (0x02, 0x80, 0x8001) ∧
    after (start 0x8000 [(0x8000, 0x9A)])
      (fun t => (t.p, t.sp, t.pc)) = some (0x00, 0x00, 0x8001) := by decide

theorem test_tsx :
    after (start 0x8000 [(0x8000, 0xBA)])
      (fun t => (t.x, t.p, t.pc)) = some (0xFF, 0x80, 0x8001) ∧
    after { start 0x8000 [(0x8000, 0xBA)] with x := 0x05, p := 0x80, sp := 0x00 }
      (fun t => (t.x, t.p, t.pc)) = some (0x00, 0x02, 0x8001) := by decide

theorem test_clc :
    after { start 0x8000 [(0x8000, 0x18)] with p := 0xFF }
      (fun t => (t.p, t.pc)) = some (0xFE, 0x8001) := by decide

theorem test_sec :
    after (start 0x8000 [(0x8000, 0x38)])
      (fun t => (t.p, t.pc)) = some (0x01, 0x8001) := by decide

theorem test_cli :
    after { start 0x8000 [(0x8000, 0x58)] with p := 0x04 }
      (fun t => (t.p, t.pc)) = some (0x00, 0x8001) := by decide

theorem test_sei :
    after (start 0x8000 [(0x8000, 0x78)])
      (fun t => (t.p, t.pc)) = some (0x04, 0x8001) := by decide

theorem test_clv :
    after { start 0x8000 [(0x8000, 0xB8)] with p := 0xC0 }
      (fun t => (t.p, t.pc)) = some (0x80, 0x8001) := by decide

theorem test_cld :
    after { start 0x8000 [(0x8000, 0xD8)] with p := 0xFF }
      (fun t => (t.p, t.pc)) = some (0xF7, 0x8001) := by decide

theorem test_sed :
    after (start 0x8000 [(0x8000, 0xF8)])
      (fun t => (t.p, t.pc)) = some (0x08, 0x8001) := by decide

theorem test_nop :
    after { start 0x8000 [(0x8000, 0xEA)] with a := 0x01, x := 0x02, y := 0x03, p := 0xA5 }
      (fun t => (t.p, t.pc)) = some (0xA5, 0x8001) ∧
    after (start 0xFFFF [(0xFFFF, 0xEA)])
      (fun t => (t.p, t.pc)) = some (0x00, 0x0000) := by decide

theorem test_brk :
    after { start 0x8000 [(0x8000, 0x00)] with p := 0x03 }
      (fun t => (t.p, t.sp, t.pc, [t.readByte 0x01FD, t.readByte 0x01FE, t.readByte 0x01FF])) = some (0x07, 0xFC, 0x8001, [0x33, 0x02, 0x80]) ∧
    after { start 0x8000 [(0x8000, 0x00)] with p := 0x04, sp := 0x01 }
      (fun t => (t.p, t.sp, t.pc, [t.readByte 0x0100, t.readByte 0x0101, t.readByte 0x01FF])) = some (0x04, 0xFE, 0x8001, [0x02, 0x80, 0x34]) ∧
    after { start 0x8000 [(0x8000, 0x00)] with p := 0x03, config := { Config.default with brkSetsI := false, brkAdvance := .two } }
      (fun t => (t.p, t.sp, t.pc, [t.readByte 0x01FD, t.readByte 0x01FE, t.readByte 0x01FF])) = some (0x03, 0xFC, 0x8002, [0x33, 0x02, 0x80]) := by decide

theorem test_rti :
    after { start 0x9000 [(0x9000, 0x40), (0x01FD, 0x33), (0x01FE, 0x02), (0x01FF, 0x80)] with p := 0x07, sp := 0xFC }
      (fun t => (t.p, t.sp, t.pc)) = some (0x03, 0xFF, 0x8002) ∧
    after { start 0x9000 [(0x9000, 0x40), (0x0100, 0x12), (0x01FE, 0xFF), (0x01FF, 0x34)] with sp := 0xFD }
      (fun t => (t.p, t.sp, t.pc)) = some (0xCF, 0x00, 0x1234) := by decide

theorem test_unmapped :
    stopped { start 0x8000 [(0x8000, 0xAA)] with a := 0x80, config := { Config.default with xferPresent := false } } = some (.unsupportedOpcode 0x8000 0xAA) ∧
    stopped { start 0x8000 [(0x8000, 0xFF)] with a := 0x01, x := 0x02, y := 0x03, p := 0xA5, sp := 0x80 } = some (.unsupportedOpcode 0x8000 0xFF) ∧
    stopped (start 0x8000 [(0x8000, 0x02)]) = some (.unsupportedOpcode 0x8000 0x02) ∧
    stopped { start 0x8000 [(0x8000, 0xEB)] with a := 0x05 } = some (.unsupportedOpcode 0x8000 0xEB) ∧
    stopped (start 0x8000 [(0x8000, 0x1A)]) = some (.unsupportedOpcode 0x8000 0x1A) := by decide

/-! ## Witnesses: states and operands that meet the hypotheses of the obligations -/

/-- A page of stack bytes that pulls read, SP at 0xFD. -/
def pulling : State :=
  { start 0x8000 [(0x01FE, 0x34), (0x01FF, 0x12), (0x0100, 0x56)] with sp := 0xFD, p := 0x83 }

theorem witness_DecodeOfEncodeIsInstruction :
    (Instr.tax.wellFormed .default = true ∧ decode .default (encode .tax ++ [0xFF]) = .instr .tax [0xFF]) ∧
    ((Instr.jmpInd 0xFF00).wellFormed noTransfers = true ∧
      decode noTransfers (encode (.jmpInd 0xFF00) ++ []) = .instr (.jmpInd 0xFF00) []) := by decide

theorem witness_EncodeOfDecodedIsBytes :
    decode .default [0xA9, 0x10, 0xEA] = .instr (.ldaImm 0x10) [0xEA] ∧
    decode noTransfers [0xEA] = .instr .nop [] := by decide

theorem witness_UnmappedOpcodesAreTheListed :
    decode .default [0x02] = .unmapped 0x02 ∧ decode .default [0xFF, 0x00] = .unmapped 0xFF ∧
    decode noTransfers [0x98] = .unmapped 0x98 ∧ decode .default [0x98] = .instr .tya [] := by decide

theorem witness_StepRunsDecodedInstruction :
    let s := start 0xFFFF [(0xFFFF, 0xAD), (0x0000, 0x34), (0x0001, 0x12)]
    decode s.config [s.readByte s.pc, s.readByte (s.pc + 1), s.readByte (s.pc + 2)] = .instr (.ldaAbs 0x1234) [] := by
  decide

theorem witness_MappedInstructionAlwaysCompletes :
    (after (start 0x8000 [(0x8000, 0x00)]) (fun t => t.pc) = some 0x8001) ∧
    stopped (start 0x8000 [(0x8000, 0xFF)]) = some (.unsupportedOpcode 0x8000 0xFF) ∧
    (decodeOpcode .default 0x00).isSome = true ∧ (decodeOpcode noTransfers 0xAA).isSome = false := by decide

theorem witness_UnmappedOpcodeReportsPcAndByte :
    (start 0xFFFF [(0xFFFF, 0xFF)]).readByte 0xFFFF = 0xFF ∧
    (decodeOpcode .default 0xFF).isSome = false ∧ (decodeOpcode .default 0xFE).isSome = true := by decide

theorem witness_PcAdvancesByLengthUnlessAssigned :
    (Mnemonic.LDA ∉ setsPc ∧ ran (.ldaAbs 0x1234) (start 0xFFFE []) (fun t => t.pc) = some 0x0001) ∧
    (Instr.brk.mnemonic = .BRK ∧ ran .brk (start 0xFFFF []) (fun t => t.pc) = some 0x0000) ∧
    ((Instr.bne 0x80).operand = .rel 0x80 ∧ ran (.bne 0x80) (start 0x0000 []) (fun t => t.pc) = some 0xFF82) ∧
    ((Instr.beq 0x7F).operand = .rel 0x7F ∧ ran (.beq 0x7F) (start 0xFFFF []) (fun t => t.pc) = some 0x0001) := by decide

theorem witness_DumpReadsCellsAndStatus :
    (0 < 2 ∧ 1 < 2) ∧
    ({ start 0x8000 [(0xFFFF, 0x11), (0x0000, 0x22)] with p := 0xA5 }).dump 0xFFFF 2 = { bytes := [0x11, 0x22], p := 0xA5 } := by
  decide

theorem witness_StepKeepsMemoryCanonical : Invariant (start 0x8000 [(0x8000, 0x48), (0x0000, 0x01), (0xFFFF, 0x00)]) ∧
    after { start 0x8000 [(0x8000, 0x48), (0x0000, 0x01), (0xFFFF, 0x00)] with a := 0x7F } (fun t => t.mem) =
      some [(0x0000, 0x01), (0x01FF, 0x7F), (0x8000, 0x48)] := by
  unfold Invariant; decide

theorem witness_StepKeepsParameters :
    after { start 0x8000 [(0x8000, 0xEA)] with config := noTransfers } (fun t => t.config) = some noTransfers := by decide

/-- The two clauses of the write: at the cell written, a zero that removes the entry, and beside it. -/
theorem witness_MemoryWriteSetsOneCell :
    let s := start 0x8000 [(0x0200, 0xEE), (0x0201, 0x11)]
    (s.writeByte 0x0200 0x00).readByte 0x0200 = 0x00 ∧ (s.writeByte 0x0200 0x00).readByte 0x0201 = 0x11 ∧
    (s.writeByte 0x0200 0x00).mem = [(0x0201, 0x11)] := by decide

theorem witness_PushAndPullUseTheStackPage :
    let s := { start 0x8000 [(0x0100, 0x56)] with sp := 0x00 }
    ((s.push 0x42).sp = 0xFF ∧ (s.push 0x42).readByte 0x0100 = 0x42) ∧
    ({ s with sp := 0xFF }.pulled.sp = 0x00 ∧ { s with sp := 0xFF }.pullByte = 0x56) := by decide

theorem witness_StackDisciplineUpTo256 :
    (List.replicate 256 (0x5A : Byte)).length ≤ 256 ∧ ([] : List Byte).length ≤ 256 ∧
    ((phaSequence State.reset [0x01, 0x02]).bind (fun t => plaSequence t 2)).map Prod.fst = some [0x02, 0x01] := by
  exact ⟨List.length_replicate.le, Nat.zero_le _, by decide⟩

theorem witness_LoadsPutOperandInRegister :
    ((Instr.ldaImm 0x00).mnemonic = .LDA ∧ ran (.ldaImm 0x00) State.reset (fun t => (t.a, t.flag .z)) = some (0x00, true)) ∧
    ((Instr.ldxZpy 0xF0).mnemonic = .LDX ∧ ran (.ldxZpy 0xF0) { start 0x8000 [(0x0010, 0x80)] with y := 0x20 }
      (fun t => (t.x, t.flag .n)) = some (0x80, true)) ∧
    ((Instr.ldyAbx 0xFFFF).mnemonic = .LDY ∧ ran (.ldyAbx 0xFFFF) { start 0x8000 [(0x00FE, 0x7F)] with x := 0xFF }
      (fun t => (t.y, t.p)) = some (0x7F, 0x00)) := by decide

theorem witness_StoresPutRegisterInMemory :
    ((Instr.staIzy 0x20).mnemonic = .STA ∧ ran (.staIzy 0x20) { start 0x8000 [(0x20, 0xFF), (0x21, 0xFF)] with a := 0x66, y := 0x01 }
      (fun t => t.readByte 0x0000) = some 0x66) ∧
    ((Instr.stxZpy 0xFF).mnemonic = .STX ∧ ran (.stxZpy 0xFF) { State.reset with x := 0x11, y := 0x01 }
      (fun t => t.readByte 0x0000) = some 0x11) ∧
    ((Instr.styAbs 0xFFFF).mnemonic = .STY ∧ ran (.styAbs 0xFFFF) { State.reset with y := 0x99 }
      (fun t => t.readByte 0xFFFF) = some 0x99) := by decide

theorem witness_TransfersCopyAndSetZN :
    Instr.tax.mnemonic = .TAX ∧ Instr.tay.mnemonic = .TAY ∧ Instr.txa.mnemonic = .TXA ∧ Instr.tya.mnemonic = .TYA ∧
    ran .tax { State.reset with a := 0x80 } (fun t => (t.x, t.p)) = some (0x80, 0x80) := by decide

theorem witness_StoreThenLoadGivesTheValue :
    (Instr.staAbs 0x0200).mnemonic = .STA ∧
    (Instr.staAbs 0x0200).operand.resolve { State.reset with a := 0x5A } = some (.mem 0x0200) ∧
    (Instr.ldaAbx 0x0200).mnemonic = .LDA ∧ (Instr.ldaAbx 0x0200).mode ≠ .IMM ∧
    ran (.staAbs 0x0200) { State.reset with a := 0x5A } (fun t => (Instr.ldaAbx 0x0200).operand.resolve t) =
      some (some (.mem 0x0200)) := by decide

/-- The boundaries of the carry (255, 256) and of the overflow (127, 128, -128, -129). -/
theorem witness_AddWithCarryIsExactSum :
    (Instr.adcImm 0xFF).mnemonic = .ADC ∧
    ran (.adcImm 0xFE) { State.reset with a := 0x01 } (fun t => (t.a, t.p)) = some (0xFF, 0x80) ∧
    ran (.adcImm 0xFE) { State.reset with a := 0x01, p := 0x01 } (fun t => (t.a, t.p)) = some (0x00, 0x03) ∧
    ran (.adcImm 0x3F) { State.reset with a := 0x40, p := 0x00 } (fun t => (t.a, t.p)) = some (0x7F, 0x00) ∧
    ran (.adcImm 0x3F) { State.reset with a := 0x40, p := 0x01 } (fun t => (t.a, t.p)) = some (0x80, 0xC0) ∧
    ran (.adcImm 0xFF) { State.reset with a := 0x81, p := 0x00 } (fun t => (t.a, t.p)) = some (0x80, 0x81) ∧
    ran (.adcImm 0xFF) { State.reset with a := 0x80, p := 0x00 } (fun t => (t.a, t.p)) = some (0x7F, 0x41) := by decide

/-- The boundaries of the borrow (difference 0, -1) and of the overflow (-128, -129, 127, 128). -/
theorem witness_SubtractWithBorrowIsExactDifference :
    (Instr.sbcImm 0x01).mnemonic = .SBC ∧
    ran (.sbcImm 0x01) { State.reset with a := 0x01, p := 0x01 } (fun t => (t.a, t.p)) = some (0x00, 0x03) ∧
    ran (.sbcImm 0x01) { State.reset with a := 0x01, p := 0x00 } (fun t => (t.a, t.p)) = some (0xFF, 0x80) ∧
    ran (.sbcImm 0x01) { State.reset with a := 0x81, p := 0x01 } (fun t => (t.a, t.p)) = some (0x80, 0x81) ∧
    ran (.sbcImm 0x01) { State.reset with a := 0x80, p := 0x01 } (fun t => (t.a, t.p)) = some (0x7F, 0x41) ∧
    ran (.sbcImm 0xFF) { State.reset with a := 0x7E, p := 0x01 } (fun t => (t.a, t.p)) = some (0x7F, 0x00) ∧
    ran (.sbcImm 0xFF) { State.reset with a := 0x7F, p := 0x01 } (fun t => (t.a, t.p)) = some (0x80, 0xC0) := by decide

theorem witness_DecimalFlagDoesNotChangeArithmetic :
    ((Instr.adcImm 0x09).mnemonic = .ADC ∨ (Instr.adcImm 0x09).mnemonic = .SBC) ∧
    ((Instr.sbcZp 0x10).mnemonic = .ADC ∨ (Instr.sbcZp 0x10).mnemonic = .SBC) ∧
    ran (.adcImm 0x09) ({ State.reset with a := 0x09 }.putFlag .d true) (fun t => (t.a, t.p)) = some (0x12, 0x08) := by decide

theorem witness_LogicCombinesBitwise :
    (Instr.andImm 0x0F).mnemonic = .AND ∧ (Instr.eorIzx 0x10).mnemonic = .EOR ∧ (Instr.oraAby 0x1234).mnemonic = .ORA ∧
    ran (.andImm 0x3C) { State.reset with a := 0x0F } (fun t => t.a) = some 0x0C ∧
    ran (.eorImm 0x3C) { State.reset with a := 0x0F } (fun t => t.a) = some 0x33 ∧
    ran (.oraImm 0x3C) { State.reset with a := 0x0F } (fun t => t.a) = some 0x3F := by decide

theorem witness_BitTestsOperandBits :
    (Instr.bitZp 0x10).mnemonic = .BIT ∧ (Instr.bitAbs 0x0300).mnemonic = .BIT ∧
    ran (.bitZp 0x10) (start 0x8000 [(0x0010, 0x80)]) (fun t => t.p) = some 0x82 ∧
    ran (.bitZp 0x10) { start 0x8000 [(0x0010, 0x40)] with a := 0x40 } (fun t => t.p) = some 0x40 := by decide

/-- The boundary of each comparison: equal, one below, one above. -/
theorem witness_ComparesSetFlagsOfDifference :
    ((Instr.cmpImm 0x80).mnemonic = .CMP ∧ ran (.cmpImm 0x80) { State.reset with a := 0x80 } (fun t => t.p) = some 0x03 ∧
      ran (.cmpImm 0x80) { State.reset with a := 0x7F } (fun t => t.p) = some 0x80 ∧
      ran (.cmpImm 0x80) { State.reset with a := 0x81 } (fun t => t.p) = some 0x01) ∧
    ((Instr.cpxImm 0x00).mnemonic = .CPX ∧ ran (.cpxImm 0x00) State.reset (fun t => t.p) = some 0x03) ∧
    ((Instr.cpyImm 0xFF).mnemonic = .CPY ∧ ran (.cpyImm 0xFF) State.reset (fun t => t.p) = some 0x00) := by decide

theorem witness_ShiftsMoveOneBit :
    ((Instr.aslAcc).mnemonic = .ASL ∧ ran .aslAcc { State.reset with a := 0xC1 } (fun t => (t.a, t.p)) = some (0x82, 0x81)) ∧
    ((Instr.aslAbx 0xFFFF).mnemonic = .ASL ∧ ran (.aslAbx 0xFFFF) { start 0x8000 [(0x0000, 0x55)] with x := 0x01 }
      (fun t => (t.readByte 0x0000, t.a)) = some (0xAA, 0x00)) ∧
    ((Instr.lsrZpx 0xFF).mnemonic = .LSR ∧ ran (.lsrZpx 0xFF) { start 0x8000 [(0x0000, 0x01)] with x := 0x01, p := 0x80 }
      (fun t => (t.readByte 0x0000, t.p)) = some (0x00, 0x03)) := by decide

theorem witness_RotatesMoveThroughCarry :
    ((Instr.rolZp 0x10).mnemonic = .ROL ∧ ran (.rolZp 0x10) { start 0x8000 [(0x0010, 0x40)] with p := 0x01 }
      (fun t => (t.readByte 0x0010, t.p)) = some (0x81, 0x80)) ∧
    ((Instr.rorAcc).mnemonic = .ROR ∧ ran .rorAcc { State.reset with a := 0x02, p := 0x01 } (fun t => (t.a, t.p)) =
      some (0x81, 0x80)) := by decide

theorem witness_MemoryIncrementAndDecrement :
    ((Instr.incAbs 0x0200).mnemonic = .INC ∧ ran (.incAbs 0x0200) (start 0x8000 [(0x0200, 0xFF)])
      (fun t => (t.readByte 0x0200, t.p)) = some (0x00, 0x02)) ∧
    ((Instr.decZpx 0x10).mnemonic = .DEC ∧ ran (.decZpx 0x10) { State.reset with x := 0x01 }
      (fun t => (t.readByte 0x0011, t.p)) = some (0xFF, 0x80)) := by decide

theorem witness_IndexIncrementAndDecrement :
    Instr.inx.mnemonic = .INX ∧ Instr.iny.mnemonic = .INY ∧ Instr.dex.mnemonic = .DEX ∧ Instr.dey.mnemonic = .DEY ∧
    ran .inx { State.reset with x := 0xFF } (fun t => (t.x, t.p)) = some (0x00, 0x02) ∧
    ran .dey State.reset (fun t => (t.y, t.p)) = some (0xFF, 0x80) := by decide

/-- Each branch, taken and not taken. -/
theorem witness_BranchesTestOneFlag :
    ((Instr.bpl 0x10).mnemonic = .BPL ∧ ran (.bpl 0x10) State.reset (fun t => t.pc) = some 0x0012 ∧
      ran (.bpl 0x10) { State.reset with p := 0x80 } (fun t => t.pc) = some 0x0002) ∧
    ((Instr.bmi 0x10).mnemonic = .BMI ∧ ran (.bmi 0x10) State.reset (fun t => t.pc) = some 0x0002 ∧
      ran (.bmi 0x10) { State.reset with p := 0x80 } (fun t => t.pc) = some 0x0012) ∧
    ((Instr.bvc 0x10).mnemonic = .BVC ∧ ran (.bvc 0x10) State.reset (fun t => t.pc) = some 0x0012 ∧
      ran (.bvc 0x10) { State.reset with p := 0x40 } (fun t => t.pc) = some 0x0002) ∧
    ((Instr.bvs 0x10).mnemonic = .BVS ∧ ran (.bvs 0x10) State.reset (fun t => t.pc) = some 0x0002 ∧
      ran (.bvs 0x10) { State.reset with p := 0x40 } (fun t => t.pc) = some 0x0012) ∧
    ((Instr.bcc 0x10).mnemonic = .BCC ∧ ran (.bcc 0x10) State.reset (fun t => t.pc) = some 0x0012 ∧
      ran (.bcc 0x10) { State.reset with p := 0x01 } (fun t => t.pc) = some 0x0002) ∧
    ((Instr.bcs 0x10).mnemonic = .BCS ∧ ran (.bcs 0x10) State.reset (fun t => t.pc) = some 0x0002 ∧
      ran (.bcs 0x10) { State.reset with p := 0x01 } (fun t => t.pc) = some 0x0012) ∧
    ((Instr.bne 0x80).mnemonic = .BNE ∧ ran (.bne 0x80) State.reset (fun t => t.pc) = some 0xFF82 ∧
      ran (.bne 0x80) { State.reset with p := 0x02 } (fun t => t.pc) = some 0x0002) ∧
    ((Instr.beq 0x80).mnemonic = .BEQ ∧ ran (.beq 0x80) State.reset (fun t => t.pc) = some 0x0002 ∧
      ran (.beq 0x80) { State.reset with p := 0x02 } (fun t => t.pc) = some 0xFF82) := by decide

theorem witness_BeqTakenWhenZeroSetCanLoopOnItself :
    let s := { start 0xFFFF [(0xFFFF, 0xF0), (0x0000, 0xFE)] with p := 0x02 }
    (Instr.beq 0xFE).mnemonic = .BEQ ∧ s.readByte s.pc = 0xF0 ∧ s.readByte (s.pc + 1) = 0xFE ∧ s.flag .z = true ∧
      after s (fun t => t) = some s := by decide

theorem witness_JumpSetsPcOnly :
    (Instr.jmpAbs 0x1234).mnemonic = .JMP ∧ (Instr.jmpInd 0xFFFF).mnemonic = .JMP ∧
    ran (.jmpInd 0xFFFF) (start 0x8000 [(0xFFFF, 0x78), (0x0000, 0x56)]) (fun t => t.pc) = some 0x5678 := by decide

theorem witness_JsrPushesLastByteAddress :
    (Instr.jsr 0x1234).mnemonic = .JSR ∧
    ran (.jsr 0x1234) { start 0x80FF [] with sp := 0x00 } (fun t => (t.pc, t.sp, t.readByte 0x0100, t.readByte 0x01FF)) =
      some (0x1234, 0xFE, 0x81, 0x01) := by decide

theorem witness_RtsPullsAddressPlusOne :
    Instr.rts.mnemonic = .RTS ∧ ran .rts pulling (fun t => (t.pc, t.sp)) = some (0x1235, 0xFF) ∧
    ran .rts { pulling with sp := 0xFE } (fun t => (t.pc, t.sp)) = some (0x5613, 0x00) := by decide

/-- The JSR overwrites its own operand bytes. -/
theorem witness_JsrTargetReadBeforePushes :
    let s := start 0x01FD [(0x01FD, 0x20), (0x01FE, 0x34), (0x01FF, 0x12)]
    s.readByte s.pc = 0x20 ∧ after s (fun t => (t.pc, t.readByte 0x01FF, t.readByte 0x01FE)) = some (0x1234, 0x01, 0xFF) := by
  decide

theorem witness_PhaAndPhpPushOneByte :
    (Instr.pha.mnemonic = .PHA ∧ ran .pha { State.reset with a := 0x42, sp := 0x00 } (fun t => (t.sp, t.readByte 0x0100)) =
      some (0xFF, 0x42)) ∧
    (Instr.php.mnemonic = .PHP ∧ ran .php { State.reset with p := 0x83 } (fun t => (t.sp, t.readByte 0x01FF, t.p)) =
      some (0xFE, 0xB3, 0x83)) := by decide

theorem witness_PlaAndPlpPullOneByte :
    (Instr.pla.mnemonic = .PLA ∧ ran .pla pulling (fun t => (t.a, t.sp, t.p)) = some (0x34, 0xFE, 0x01)) ∧
    (Instr.plp.mnemonic = .PLP ∧ ran .plp { pulling with sp := 0xFF } (fun t => (t.p, t.sp)) = some (0x56, 0x00)) := by decide

theorem witness_StackPointerTransfers :
    (Instr.txs.mnemonic = .TXS ∧ ran .txs { State.reset with p := 0x80 } (fun t => (t.sp, t.p)) = some (0x00, 0x80)) ∧
    (Instr.tsx.mnemonic = .TSX ∧ ran .tsx { State.reset with sp := 0x00 } (fun t => (t.x, t.p)) = some (0x00, 0x02)) := by decide

theorem witness_FlagInstructionsWriteOneBit :
    Instr.clc.mnemonic = .CLC ∧ Instr.sec.mnemonic = .SEC ∧ Instr.cli.mnemonic = .CLI ∧ Instr.sei.mnemonic = .SEI ∧
    Instr.clv.mnemonic = .CLV ∧ Instr.cld.mnemonic = .CLD ∧ Instr.sed.mnemonic = .SED := by decide

theorem witness_NopAdvancesPcOnly :
    Instr.nop.mnemonic = .NOP ∧ ran .nop (start 0xFFFF []) (fun t => t) = some (start 0x0000 []) := by decide

/-- Both values of `BRK_ADVANCE` and of `BRK_SETS_I`, SP wrapping inside the frame. -/
theorem witness_BrkPushesFrameAndContinues :
    Instr.brk.mnemonic = .BRK ∧ Config.default.brkAdvance = .one ∧
    ran .brk { start 0x8000 [] with sp := 0x01, p := 0x03 }
      (fun t => (t.pc, t.sp, t.p, [t.readByte 0x0101, t.readByte 0x0100, t.readByte 0x01FF])) =
      some (0x8001, 0xFE, 0x07, [0x80, 0x02, 0x33]) ∧
    ran .brk { start 0x8000 [] with config := { Config.default with brkAdvance := .two, brkSetsI := false } }
      (fun t => (t.pc, t.p)) = some (0x8002, 0x00) := by decide

theorem witness_RtiRestoresStatusAndPc :
    Instr.rti.mnemonic = .RTI ∧ ran .rti pulling (fun t => (t.p, t.pc, t.sp)) = some (0x04, 0x5612, 0x00) := by decide

/-- An accumulator form (from two states with the same A and C and different memory), an immediate form that answers a next state, and an immediate operand fetched at the top of memory. -/
theorem witness_ImpliedAccumulatorImmediateResolve :
    (Instr.nop.mode = .IMP ∧ Instr.rorAcc.mode = .ACC ∧ (Instr.ldaImm 0x80).mode = .IMM) ∧
    ((start 0x8000 [(0x0000, 0x77)]).a = State.reset.a ∧
      (start 0x8000 [(0x0000, 0x77)]).flag .c = State.reset.flag .c ∧
      ran .rorAcc State.reset (fun t => t.a) = some 0x00 ∧
      ran .rorAcc (start 0x8000 [(0x0000, 0x77)]) (fun t => t.a) = some 0x00 ∧
      ran .rorAcc (State.reset.setA 0x02) (fun t => t.a) = some 0x01) ∧
    (ran .rorAcc State.reset (fun t => t.mem) = some [] ∧ ran (.ldaImm 0x80) State.reset (fun t => t.mem) = some []) ∧
    (fetchInstr (start 0xFFFF [(0xFFFF, 0xA9), (0x0000, 0x80)]) = some (.ldaImm 0x80) ∧
      (Instr.ldaImm 0x80).operand = .imm 0x80) := by decide

theorem witness_ZeroPageModesStayInZeroPage :
    ((Instr.ldaZp 0xFF).mode = .ZP ∧ (Instr.ldaZpx 0xFF).mode = .ZPX ∧ (Instr.stxZpy 0xFF).mode = .ZPY) ∧
    (Operand.zpx 0xFF).resolve { State.reset with x := 0x02 } = some (.mem 0x0001) ∧
    (Operand.zpy 0xFF).resolve { State.reset with y := 0x00 } = some (.mem 0x00FF) := by decide

/-- Each of the four modes fetched, at the ends of the operand and with the operand bytes across the top of memory. -/
theorem witness_AbsoluteModesLittleEndianAndWrap :
    (fetchInstr (start 0x8000 [(0x8000, 0xAD), (0x8001, 0x34), (0x8002, 0x12)]) = some (.ldaAbs 0x1234) ∧
      (Instr.ldaAbs 0x1234).operand = .abs 0x1234) ∧
    (fetchInstr (start 0xFFFF [(0xFFFF, 0xBD), (0x0000, 0xFF), (0x0001, 0x00)]) = some (.ldaAbx 0x00FF) ∧
      (Instr.ldaAbx 0x00FF).operand = .abx 0x00FF) ∧
    (fetchInstr (start 0xFFFE [(0xFFFE, 0xB9), (0xFFFF, 0x00), (0x0000, 0xFF)]) = some (.ldaAby 0xFF00) ∧
      (Instr.ldaAby 0xFF00).operand = .aby 0xFF00) ∧
    (fetchInstr (start 0x8000 [(0x8000, 0x6C), (0x8001, 0xFF), (0x8002, 0xFF)]) = some (.jmpInd 0xFFFF) ∧
      (Instr.jmpInd 0xFFFF).operand = .ind 0xFFFF) ∧
    (Instr.jmpInd 0xFFFF).mode = .IND ∧
    (Operand.aby 0xFFFF).resolve { State.reset with y := 0x02 } = some (.mem 0x0001) := by decide

/-- Both values of each parameter, at the page end each is about, and off it; an instruction of each mode. -/
theorem witness_IndirectModesReadPointers :
    let s := start 0x8000 [(0x00FF, 0x34), (0x0000, 0x12), (0x0100, 0x56), (0x12FF, 0x78), (0x1300, 0x9A), (0x1200, 0xBC)]
    let t := { s with config := { Config.default with zpPtrWrap := false, jmpIndPageWrap := true } }
    ((Operand.izx 0xFF).resolve s = some (.mem 0x1234) ∧ (Operand.izx 0xFF).resolve t = some (.mem 0x5634)) ∧
    ((Operand.izy 0xFF).resolve s = some (.mem 0x1234) ∧ (Operand.izy 0xFF).resolve t = some (.mem 0x5634)) ∧
    ((Operand.ind 0x12FF).resolve s = some (.mem 0x9A78) ∧ (Operand.ind 0x12FF).resolve t = some (.mem 0xBC78)) ∧
    (Operand.ind 0x12FE).resolve s = (Operand.ind 0x12FE).resolve t ∧
    (Instr.jmpInd 0x12FF).mode = .IND ∧ (Instr.ldaIzx 0xFF).mode = .IZX ∧ (Instr.staIzy 0xFF).mode = .IZY := by decide

/-- The two ends of the displacement, and an instruction of the mode. -/
theorem witness_RelativeTargetIsSignedFromNext :
    (Operand.rel 0x80).resolve State.reset = some (.mem 0xFF82) ∧
    (Operand.rel 0x7F).resolve { State.reset with pc := 0xFFFF } = some (.mem 0x0080) ∧
    (Instr.bvs 0x00).mode = .REL ∧ ran (.bvs 0x00) State.reset (fun t => t.mem) = some [] := by decide

theorem witness_FlagsChangeOnlyWhereListed :
    Flag.d ∉ flagsWritten (Instr.adcImm 0x01).mnemonic ∧ Flag.c ∉ flagsWritten Instr.brk.mnemonic ∧
    ran (.adcImm 0x01) { State.reset with p := 0x3C } (fun t => t.p) = some 0x3C ∧
    ran .brk { State.reset with p := 0x01 } (fun t => t.p) = some 0x05 := by decide

theorem witness_RegistersAndMemoryChangeOnlyWhereListed :
    Reg.x ∉ regsWritten (.aslZp 0x10) ∧ Reg.a ∉ regsWritten (.aslZp 0x10) ∧ Reg.a ∈ regsWritten .aslAcc ∧
    (0x0011 : Word) ∉ cellsWritten (.aslZp 0x10) State.reset ∧ (0x0010 : Word) ∈ cellsWritten (.aslZp 0x10) State.reset ∧
    ran (.aslZp 0x10) { start 0x8000 [(0x0010, 0x01), (0x0011, 0x01)] with a := 0x77 }
      (fun t => (t.a, t.readByte 0x0010, t.readByte 0x0011)) = some (0x77, 0x02, 0x01) := by decide

/-- Two states that differ in both bits: one step of PHP in each, and a fault in each. -/
theorem witness_BreakAndUnusedBitsUnobservable :
    AgreeExceptBU (start 0x8000 [(0x8000, 0x08)]) { start 0x8000 [(0x8000, 0x08)] with p := 0x30 } ∧
    after (start 0x8000 [(0x8000, 0x08)]) (fun t => t.readByte 0x01FF) = some 0x30 ∧
    stopped { start 0x8000 [(0x8000, 0xFF)] with p := 0x30 } = some (.unsupportedOpcode 0x8000 0xFF) := by
  unfold AgreeExceptBU; decide

/-! ## The boundary of the loader (R294) and the end of a run (R296) -/

theorem test_load_stops_at_the_top :
    Memory.load [] 0xFFFF [0x11, 0x22] = [(0xFFFF, 0x11)] ∧ Memory.load [] 0x10000 [0x33] = [] := by decide

theorem test_finished : finished 0x8000 (start 0x8000 []) = true ∧ finished 0x8001 (start 0x8000 []) = false := by decide

end Sys2Proof.Tests
end

section
/-! The memory family (20_memory.md): the frame of one write (R51), and the absolute modes, whose operand is the
two bytes after the opcode, low byte first (R54, R132 to R134). -/

namespace Sys2Proof

/-! ## Operand bytes of a decoded instruction -/

/-- The operand of an instruction the decoder answers is made of the bytes after the opcode, in their order. -/
theorem operandBytes_isPrefix_of_decodeWindow {cfg : Config} {op b1 b2 : Byte} {i : Instr}
    (h : decodeWindow cfg op b1 b2 = some i) : i.operand.bytes <+: [b1, b2] := by
  obtain ⟨f, hf, rfl⟩ := Option.map_eq_some_iff.1 h
  have henc := encodesAs_of_decodeOpcode hf
  cases f with
  | f1 i =>
    have hb : i.operand.bytes = [] := (List.cons.inj henc).2
    exact ⟨[b1, b2], congrArg (· ++ [b1, b2]) hb⟩
  | f2 mk =>
    have hb : (mk b1).operand.bytes = [b1] := (List.cons.inj (henc b1)).2
    exact ⟨[b2], congrArg (· ++ [b2]) hb⟩
  | f3 mk =>
    have hb := (List.cons.inj (henc (wordOf b2 b1))).2
    rw [loByte_wordOf, hiByte_wordOf] at hb
    exact ⟨[], congrArg (· ++ []) hb⟩

/-- R54: a decoded operand of two bytes is the word of the two bytes after the opcode, low byte first. -/
theorem eq_wordOf_of_decodeWindow {cfg : Config} {op b1 b2 : Byte} {i : Instr} {w : Word}
    (h : decodeWindow cfg op b1 b2 = some i) (hw : i.operand.bytes = [loByte w, hiByte w]) : w = wordOf b2 b1 := by
  have hpre := hw ▸ operandBytes_isPrefix_of_decodeWindow h
  obtain ⟨hlo, hhi⟩ : loByte w = b1 ∧ hiByte w = b2 := by simpa using hpre
  rw [← hlo, ← hhi, wordOf_hiByte_loByte]

theorem Operand.bytes_of_absolute {o : Operand} {w : Word} (h : o = .abs w ∨ o = .abx w ∨ o = .aby w ∨ o = .ind w) :
    o.bytes = [loByte w, hiByte w] := by
  rcases h with rfl | rfl | rfl | rfl <;> rfl

theorem Mode.length_of_absolute {m : Mode} (h : m ∈ [Mode.ABS, .ABX, .ABY, .IND]) : m.length = 3 := by
  cases m with
  | ABS | ABX | ABY | IND => rfl
  | IMP | ACC | IMM | ZP | ZPX | ZPY | IZX | IZY | REL => simp at h

namespace Machine

/-- R133, R134: an index byte is added to an address with 16-bit wraparound. -/
theorem add_zext16_eq_ofNat (w : Word) (b : Byte) :
    w + zext16 b = BitVec.ofNat 16 ((w.toNat + b.toNat) % 65536) := by
  apply BitVec.eq_of_toNat_eq
  rw [BitVec.toNat_add, zext16_toNat, BitVec.toNat_ofNat, Nat.mod_mod]

end Machine

namespace Safety

open Machine

/-- R51: a write changes its cell at most, and no register or flag. -/
theorem ChangesOnly.writeByte (s : State) (c : Word) (v : Byte) : ChangesOnly [] [] [c] s (s.writeByte c v) where
  regs_kept r _ := by cases r <;> rfl
  flags_kept f _ := State.writeByte_flag s c v f
  cells_kept _ hd := State.readByte_writeByte_other s v (mt List.mem_singleton.2 hd)
  config_kept := State.writeByte_config s c v

end Safety

namespace Proofs

open Machine

/-- Settles O14: a read after a write (`State.readByte_writeByte`) with the frame of a write. -/
theorem memoryWriteSetsOneCell : Obligations.MemoryWriteSetsOneCell := fun s c d v =>
  ⟨State.readByte_writeByte s c d v, Safety.ChangesOnly.writeByte s c v, State.writeByte_pc s c v⟩

/-- Settles O49: the decoder takes the two operand bytes from PC + 1 and PC + 2, and R54 puts the low byte first. -/
theorem absoluteModesLittleEndianAndWrap : Obligations.AbsoluteModesLittleEndianAndWrap := by
  refine ⟨fun s i w hfetch hop => ?operand, fun w s => ⟨rfl, ?abx, ?aby⟩, fun i h => Mode.length_of_absolute h⟩
  case operand =>
    rw [eq_wordOf_of_decodeWindow hfetch (Operand.bytes_of_absolute hop), wordOf_toNat]
  case abx => rw [Operand.resolve_abx, eaAbx, add_zext16_eq_ofNat]
  case aby => rw [Operand.resolve_aby, eaAby, add_zext16_eq_ofNat]

end Proofs

end Sys2Proof
end

section
/-! The step family (40_step_alu_addressing.md): every meaning completes, so a step stops only on an unmapped opcode
(R110, R113); the modes without a memory operand and the zero-page modes (R126 to R131); the branch target (R138). -/

namespace Sys2Proof

/-! ## Operand bytes and lengths -/

/-- R80: a decoded operand of one byte is the byte after the opcode. -/
theorem eq_of_decodeWindow_of_bytes_eq {cfg : Config} {op b1 b2 v : Byte} {i : Instr}
    (h : decodeWindow cfg op b1 b2 = some i) (hv : i.operand.bytes = [v]) : v = b1 := by
  have hpre : [v] <+: [b1, b2] := hv ▸ operandBytes_isPrefix_of_decodeWindow h
  exact (List.cons_prefix_cons.1 hpre).1

theorem Mode.length_of_zeroPage {m : Mode} (h : m ∈ [Mode.ZP, .ZPX, .ZPY]) : m.length = 2 := by
  cases m with
  | ZP | ZPX | ZPY => rfl
  | IMP | ACC | IMM | ABS | ABX | ABY | IND | IZX | IZY | REL => simp at h

/-! ## The instructions of a mode, read off R86's table -/

namespace Instr

theorem mnemonic_of_mode_zpy {i : Instr} (h : i.mode = .ZPY) : i.mnemonic = .LDX ∨ i.mnemonic = .STX := by
  cases i with
  | ldxZpy b => exact .inl rfl
  | stxZpy b => exact .inr rfl
  | _ => cases h

theorem mem_of_mode_acc {i : Instr} (h : i.mode = .ACC) : i ∈ [aslAcc, lsrAcc, rolAcc, rorAcc] := by
  cases i with
  | aslAcc | lsrAcc | rolAcc | rorAcc => decide
  | _ => cases h

theorem exists_mem_of_mode_rel {i : Instr} (h : i.mode = .REL) :
    ∃ d, i ∈ [bcc d, bcs d, beq d, bne d, bmi d, bpl d, bvc d, bvs d] := by
  cases i with
  | bcc d | bcs d | beq d | bne d | bmi d | bpl d | bvc d | bvs d => exact ⟨d, by simp⟩
  | _ => cases h

theorem mnemonic_of_mode_acc {i : Instr} (h : i.mode = .ACC) : i.mnemonic ∈ [Mnemonic.ASL, .LSR, .ROL, .ROR] :=
  List.mem_map_of_mem (f := mnemonic) (mem_of_mode_acc h)

theorem mnemonic_of_mode_rel {i : Instr} (h : i.mode = .REL) :
    i.mnemonic ∈ [Mnemonic.BCC, .BCS, .BEQ, .BNE, .BMI, .BPL, .BVC, .BVS] := by
  obtain ⟨d, hi⟩ := exists_mem_of_mode_rel h
  exact List.mem_map_of_mem (f := mnemonic) hi

end Instr

namespace Machine

/-! ## Every meaning completes -/

/-- R113: the dispatch has a row for every instruction, and the meaning of each row is a next state outright. -/
theorem exec_completes (i : Instr) (s : State) : ∃ t, exec i s = .next t := by
  cases i <;> exact ⟨_, rfl⟩

/-- R110: a step completes the instruction it fetches, or fetches none and reports the byte at PC. -/
theorem step_completes_or_reports (s : State) :
    (∃ t, step s = .next t) ∨ (fetchInstr s = none ∧ step s = unsupportedOpcode s) := by
  cases hf : fetchInstr s with
  | none => exact .inr ⟨rfl, step_of_no_fetch hf⟩
  | some i => exact .inl (step_of_fetch hf ▸ exec_completes i s)

/-! ## Branches -/

theorem exec_eq_branch_of_mode_rel {i : Instr} (h : i.mode = .REL) (s : State) :
    ∃ taken d, exec i s = branch taken d s := by
  obtain ⟨d, hi⟩ := Instr.exists_mem_of_mode_rel h
  simp only [List.mem_cons, List.not_mem_nil, or_false] at hi
  rcases hi with rfl | rfl | rfl | rfl | rfl | rfl | rfl | rfl <;> exact ⟨_, d, rfl⟩

/-- R138: the target is the sum of integers PC + 2 + d, with d signed, as a 16-bit word. -/
theorem eaRel_eq_ofInt (d : Byte) (s : State) : eaRel d s = BitVec.ofInt 16 (s.pc.toNat + 2 + d.toInt) := by
  rw [BitVec.ofInt_add, BitVec.ofInt_add, BitVec.ofInt_natCast, BitVec.ofNat_toNat, BitVec.setWidth_eq]
  rfl

theorem eaRel_toNat (d : Byte) (s : State) :
    ((eaRel d s).toNat : Int) = ((s.pc.toNat : Int) + 2 + d.toInt) % 65536 := by
  rw [eaRel_eq_ofInt, BitVec.toNat_ofInt, Int.toNat_of_nonneg (Int.emod_nonneg _ (by decide))]
  rfl

/-! ## The zero page -/

/-- R130, R131: an index byte is added to an operand byte inside the zero page. -/
theorem zext16_add_eq_ofNat (b x : Byte) : zext16 (b + x) = BitVec.ofNat 16 ((b.toNat + x.toNat) % 256) := by
  rw [zext16_eq_ofNat, BitVec.toNat_add]

/-! ## The accumulator forms -/

/-- R121: the low seven bits move up one place. -/
theorem rol8_getLsbD_succ (v : Byte) (c : Bool) {k : Nat} (hk : k < 7) :
    (rol8 v c).1.getLsbD (k + 1) = v.getLsbD k := by
  have happ : (rol8 v c).1.getLsbD (k + 1) = _ := BitVec.getLsbD_append (x := v.extractLsb' 0 7)
  rw [happ]
  simp [hk]

/-- R122: the high seven bits move down one place. -/
theorem ror8_getLsbD (v : Byte) (c : Bool) {k : Nat} (hk : k < 7) :
    (ror8 v c).1.getLsbD k = v.getLsbD (k + 1) := by
  have happ : (ror8 v c).1.getLsbD k = _ := BitVec.getLsbD_append (y := v.extractLsb' 1 7)
  rw [happ]
  simp [hk, Nat.add_comm]

/-- The shifts and rotates that have an accumulator form (R127), each on the carry and the byte; ASL and LSR ignore the
carry. -/
def accumulatorShifts : List (Bool → Byte → Byte × Bool) :=
  [fun _ v => asl8 v, fun _ v => lsr8 v, fun c v => rol8 v c, fun c v => ror8 v c]

/-- R127, R190: an accumulator form shifts A. -/
theorem exec_eq_shiftAt_of_mode_acc {i : Instr} (h : i.mode = .ACC) :
    ∃ f ∈ accumulatorShifts, ∀ s, exec i s = shiftAt (f (s.flag .c)) .acc 1 s := by
  have hi := Instr.mem_of_mode_acc h
  simp only [List.mem_cons, List.not_mem_nil, or_false] at hi
  rcases hi with rfl | rfl | rfl | rfl
  · exact ⟨fun _ v => asl8 v, by simp [accumulatorShifts], fun _ => rfl⟩
  · exact ⟨fun _ v => lsr8 v, by simp [accumulatorShifts], fun _ => rfl⟩
  · exact ⟨fun c v => rol8 v c, by simp [accumulatorShifts], fun _ => rfl⟩
  · exact ⟨fun c v => ror8 v c, by simp [accumulatorShifts], fun _ => rfl⟩

section Shifts

variable {f : Bool → Byte → Byte × Bool} (hf : f ∈ accumulatorShifts) (c : Bool)
include hf

/-- Bit 1 of the byte, which no shift drops, moves to bit 2 or to bit 0 of the result. -/
theorem exists_shift_getLsbD_eq_bit1 : ∃ k, ∀ v, (f c v).1.getLsbD k = v.getLsbD 1 := by
  simp only [accumulatorShifts, List.mem_cons, List.not_mem_nil, or_false] at hf
  rcases hf with rfl | rfl | rfl | rfl
  · exact ⟨2, fun v => by simp [asl8]⟩
  · exact ⟨0, fun v => by simp [lsr8]⟩
  · exact ⟨2, fun v => rol8_getLsbD_succ v c (by decide)⟩
  · exact ⟨0, fun v => ror8_getLsbD v c (by decide)⟩

theorem shift_flipBit1_ne (v : Byte) : (f c (v ^^^ 0x02)).1 ≠ (f c v).1 := by
  obtain ⟨k, hk⟩ := exists_shift_getLsbD_eq_bit1 hf c
  intro heq
  have hbit : (v ^^^ 0x02).getLsbD 1 = v.getLsbD 1 := by rw [← hk, ← hk, heq]
  simp at hbit

/-- A byte of which only bit 1 is set is moved by every shift, whatever the carry. -/
theorem shift_bit1_ne_self : (f c 0x02).1 ≠ 0x02 := by
  simp only [accumulatorShifts, List.mem_cons, List.not_mem_nil, or_false] at hf
  rcases hf with rfl | rfl | rfl | rfl <;> cases c <;> decide

end Shifts

/-! ## Memory kept -/

theorem mem_kept_of_mode_acc {i : Instr} {s t : State} (h : i.mode = .ACC) (hexec : exec i s = .next t) :
    t.mem = s.mem := by
  obtain ⟨f, -, hf⟩ := exec_eq_shiftAt_of_mode_acc h
  rw [shiftAt_acc_next _ ((hf s).symm.trans hexec)]

theorem mem_kept_of_mode_rel {i : Instr} {s t : State} (h : i.mode = .REL) (hexec : exec i s = .next t) :
    t.mem = s.mem := by
  obtain ⟨taken, d, hb⟩ := exec_eq_branch_of_mode_rel h s
  rw [branch_next taken d (hb.symm.trans hexec)]

/-- R128: the instructions with an immediate form are the loads, the ALU operations and the compares. -/
theorem mem_kept_of_mode_imm {i : Instr} {s t : State} (h : i.mode = .IMM) (hexec : exec i s = .next t) :
    t.mem = s.mem := by
  cases i with
  | adcImm v | sbcImm v => rw [putSum_next _ hexec]
  | andImm v => rw [andByte_next v hexec]
  | eorImm v => rw [eorByte_next v hexec]
  | oraImm v => rw [oraByte_next v hexec]
  | cmpImm v | cpxImm v | cpyImm v => rw [compareWith_next _ v hexec]
  | ldaImm v => rw [loadA_next v hexec]
  | ldxImm v => rw [loadX_next v hexec]
  | ldyImm v => rw [loadY_next v hexec]
  | _ => cases h

end Machine

namespace Proofs

open Machine

/-- Settles O6: every meaning completes (`exec_completes`), and what a step answers follows from what it fetches. -/
theorem mappedInstructionAlwaysCompletes : Obligations.MappedInstructionAlwaysCompletes := by
  refine ⟨exec_completes, fun s hmapped => ?mapped, fun s r hrefused => ?refused, fun s r hfault => ?fault⟩
  all_goals obtain ⟨t, hnext⟩ | ⟨hfetch, hreport⟩ := step_completes_or_reports s
  case mapped.inl => exact ⟨t, hnext⟩
  case mapped.inr => exact absurd (fetchInstr_eq_none.1 hfetch) hmapped
  case refused.inl => cases hnext.symm.trans hrefused
  case refused.inr => cases hreport.symm.trans hrefused
  case fault.inl => cases hnext.symm.trans hfault
  case fault.inr => exact ⟨s.pc, s.readByte s.pc, by cases hreport.symm.trans hfault; rfl⟩

/-- Settles O51: the target as a sum of integers (`eaRel_toNat`), and the eight instructions of the mode. -/
theorem relativeTargetIsSignedFromNext : Obligations.RelativeTargetIsSignedFromNext :=
  ⟨fun d s => ⟨eaRel d s, rfl, eaRel_toNat d s⟩,
    fun _ h => ⟨congrArg Mode.length h, Instr.mnemonic_of_mode_rel h⟩,
    fun _ _ _ h hexec => mem_kept_of_mode_rel h hexec⟩

/-- Settles O47: an accumulator form is a shift of A that moves bit 1, decided by A and the carry; an immediate operand
is the one byte after the opcode. -/
theorem impliedAccumulatorImmediateResolve : Obligations.ImpliedAccumulatorImmediateResolve := by
  refine ⟨fun s => ⟨rfl, rfl, fun _ => rfl⟩,
    fun i => ⟨congrArg Mode.length, congrArg Mode.length, congrArg Mode.length⟩,
    fun _ h => Instr.mnemonic_of_mode_acc h, fun i h => ?acc, fun i s t h hexec => ?mem, fun i s v hfetch hv => ?byte⟩
  case acc =>
    obtain ⟨f, hf, hexec⟩ := exec_eq_shiftAt_of_mode_acc h
    refine ⟨fun s => ⟨s.a ^^^ 0x02, _, _, hexec s, hexec _, shift_flipBit1_ne hf (s.flag .c) s.a⟩,
      fun s => ⟨0x02, _, hexec _, shift_bit1_ne_self hf (s.flag .c)⟩, fun s s' t t' ha hc ht ht' => ?_⟩
    rw [shiftAt_acc_next _ ((hexec s).symm.trans ht), shiftAt_acc_next _ ((hexec s').symm.trans ht'), ha, hc]
  case mem => exact h.elim (mem_kept_of_mode_acc · hexec) (mem_kept_of_mode_imm · hexec)
  case byte => exact eq_of_decodeWindow_of_bytes_eq hfetch (congrArg Operand.bytes hv)

/-- Settles O48: a zero-extended byte is the address of its value, and bytes add modulo 256. -/
theorem zeroPageModesStayInZeroPage : Obligations.ZeroPageModesStayInZeroPage := by
  refine ⟨fun b s => ⟨?zp, ?zpx, ?zpy⟩, fun _ h => Mode.length_of_zeroPage h,
    fun _ h => Instr.mnemonic_of_mode_zpy h⟩
  case zp => rw [Operand.resolve_zp, eaZp, zext16_eq_ofNat]
  case zpx => rw [Operand.resolve_zpx, eaZpx, zext16_add_eq_ofNat]
  case zpy => rw [Operand.resolve_zpy, eaZpy, zext16_add_eq_ofNat]

end Proofs

end Sys2Proof
end

section
/-! The load and store family (41_load_store_transfer.md): the forms of a mnemonic read off the opcode matrix (R86, R87),
the frame of each state operation, and the meanings of the loads and the stores (R151 to R156). -/

namespace Sys2Proof

/-! ## The forms of a mnemonic -/

/-- The instruction of each mapped cell of R87's matrix, with operand bytes 0. -/
def matrixInstrs : List Instr := opcodeMatrix.flatten.reduceOption.map (·.assemble 0 0)

/-- The opcode bytes and modes that R87's matrix has for a mnemonic. -/
def matrixForms (mn : Mnemonic) : List (Byte × Mode) :=
  (matrixInstrs.filter (·.mnemonic = mn)).map fun i => (i.opcode, i.mode)

theorem assemble_mem_matrixInstrs {op : Byte} {f : Format} (h : matrixCell op = some f) :
    f.assemble 0 0 ∈ matrixInstrs := by
  obtain ⟨row, hrow, hcell⟩ := Option.bind_eq_some_iff.1 (Option.join_eq_some_iff.1 h)
  have hmem : some f ∈ opcodeMatrix.flatten :=
    List.mem_flatten_of_mem (List.mem_of_getElem? hrow) (List.mem_of_getElem? hcell)
  exact List.mem_map_of_mem (List.reduceOption_mem_iff.2 hmem)

/-- R83: the opcode byte of R86's row gives, through R87's matrix, the mnemonic and the mode of the row. -/
theorem decodeWindow_opcode_form (i : Instr) :
    (decodeWindow .default i.opcode 0 0).map (fun j => (j.mnemonic, j.mode)) = some (i.mnemonic, i.mode) := by
  -- The lookup in the matrix computes once the opcode byte is a literal, free of the operand.
  cases i <;> (dsimp only [Instr.opcode, Instr.row]; rfl)

theorem exists_decodeWindow_opcode (i : Instr) :
    ∃ j, decodeWindow .default i.opcode 0 0 = some j ∧ j.mnemonic = i.mnemonic ∧ j.mode = i.mode := by
  obtain ⟨j, hdecode, hform⟩ := Option.map_eq_some_iff.1 (decodeWindow_opcode_form i)
  exact ⟨j, hdecode, Prod.mk.inj hform⟩

theorem opcode_mode_mem_matrixForms (i : Instr) : (i.opcode, i.mode) ∈ matrixForms i.mnemonic := by
  obtain ⟨j, hdecode, hmn, hmode⟩ := exists_decodeWindow_opcode i
  obtain ⟨f, hf, hfj⟩ := Option.map_eq_some_iff.1 hdecode
  have hj : j ∈ matrixInstrs := hfj ▸ assemble_mem_matrixInstrs (matrixCell_of_decodeOpcode hf)
  rw [← opcode_of_decodeWindow hdecode, ← hmode, ← hmn]
  exact List.mem_map_of_mem (List.mem_filter.2 ⟨hj, decide_eq_true rfl⟩)

theorem exists_of_mem_matrixForms {mn : Mnemonic} {p : Byte × Mode} (h : p ∈ matrixForms mn) :
    ∃ i : Instr, i.mnemonic = mn ∧ (i.opcode, i.mode) = p := by
  obtain ⟨i, hi, hp⟩ := List.mem_map.1 h
  exact ⟨i, of_decide_eq_true (List.mem_filter.1 hi).2, hp⟩

namespace Safety

open Machine

/-- The forms of a mnemonic are those of the matrix, unless they depend on `XFER_PRESENT` (R88). -/
theorem formsAre_of_perm_matrixForms {mn : Mnemonic} {forms : List (Byte × Mode)} (hperm : (matrixForms mn).Perm forms)
    (htransfer : ∀ p ∈ forms, p.1 ∉ transferOpcodes) : FormsAre mn forms := by
  refine formsAre_of (fun i hi => ?listed) (fun p hp => ⟨htransfer p hp, ?decoded⟩)
  case listed => exact hperm.mem_iff.1 (hi ▸ opcode_mode_mem_matrixForms i)
  case decoded =>
    obtain ⟨i, rfl, rfl⟩ := exists_of_mem_matrixForms (hperm.mem_iff.2 hp)
    exact exists_decodeWindow_opcode i

/-! ## Frames -/

/-- A state that differs in registers and PC alone keeps every flag and every cell. -/
theorem ChangesOnly.of_regs {regs : List Reg} {s t : State} (hregs : ∀ r, r ∉ regs → reg t r = reg s r) (hp : t.p = s.p)
    (hmem : t.mem = s.mem) (hconfig : t.config = s.config) : ChangesOnly regs [] [] s t where
  regs_kept := hregs
  flags_kept f _ := congrArg (getFlag · f) hp
  cells_kept c _ := congrArg (·.read c.toNat) hmem
  config_kept := hconfig

theorem ChangesOnly.setA (s : State) (v : Byte) : ChangesOnly [.a] [] [] s (s.setA v) := by
  refine .of_regs (fun r hr => ?_) rfl rfl rfl
  cases r with
  | a => exact absurd (List.mem_singleton.2 rfl) hr
  | x | y | sp => rfl

theorem ChangesOnly.setX (s : State) (v : Byte) : ChangesOnly [.x] [] [] s (s.setX v) := by
  refine .of_regs (fun r hr => ?_) rfl rfl rfl
  cases r with
  | x => exact absurd (List.mem_singleton.2 rfl) hr
  | a | y | sp => rfl

theorem ChangesOnly.setY (s : State) (v : Byte) : ChangesOnly [.y] [] [] s (s.setY v) := by
  refine .of_regs (fun r hr => ?_) rfl rfl rfl
  cases r with
  | y => exact absurd (List.mem_singleton.2 rfl) hr
  | a | x | sp => rfl

/-- R110: PC is outside every frame. -/
theorem ChangesOnly.advance (s : State) (len : Word) : ChangesOnly [] [] [] s (s.advance len) :=
  .of_regs (fun r _ => by cases r <;> rfl) rfl rfl rfl

/-- R114. -/
theorem ChangesOnly.setZN (s : State) (r : Byte) : ChangesOnly [] [.z, .n] [] s (s.setZN r) where
  regs_kept q _ := by cases q <;> rfl
  flags_kept f hf := by
    simp only [List.mem_cons, List.not_mem_nil, or_false, not_or] at hf
    rw [State.flag_setZN, if_neg hf.2, if_neg hf.1]
  cells_kept _ _ := rfl
  config_kept := rfl

/-- The frame of a register write that Z and N and the advance of PC follow, as in a load. -/
theorem ChangesOnly.setZN_advance {regs : List Reg} {s t : State} (h : ChangesOnly regs [] [] s t) (r : Byte) (len : Word) :
    ChangesOnly regs [.z, .n] [] s ((t.setZN r).advance len) := by
  simpa using (h.trans (.setZN t r)).trans (.advance _ len)

/-! ## From the meaning of a mnemonic to a claim about its forms -/

/-- A mnemonic whose every form is one operation on its operand byte and its length has the operation's effect. -/
theorem readsOperand_of {mn : Mnemonic} {meaning : Byte → Word → State → Result} {effect : State → Byte → State → Prop}
    (hexec : ∀ i s, i.mnemonic = mn →
      ∃ m, i.operand.value s = some m ∧ exec i s = meaning m (BitVec.ofNat 16 i.length) s)
    (heffect : ∀ s m len, ∃ t, meaning m len s = .next t ∧ t.pc = s.pc + len ∧ effect s m t) :
    ReadsOperand mn effect := by
  intro i s hi
  obtain ⟨m, hvalue, hmeaning⟩ := hexec i s hi
  obtain ⟨t, hnext, hpc, ht⟩ := heffect s m (BitVec.ofNat 16 i.length)
  exact ⟨m, t, hvalue, hmeaning.trans hnext, hpc, ht⟩

/-- A mnemonic whose every form stores the byte `v s` at the address of its operand writes that cell and no other. -/
theorem usesLocation_of_storeByte {mn : Mnemonic} {v : State → Byte}
    (hexec : ∀ i s, i.mnemonic = mn →
      ∃ ea, i.operand.resolve s = some (.mem ea) ∧ exec i s = storeByte (v s) ea (BitVec.ofNat 16 i.length) s) :
    UsesLocation mn fun s l t => ∃ ea, l = .mem ea ∧ t.readByte ea = v s ∧ ChangesOnly [] [] [ea] s t := by
  intro i s hi
  obtain ⟨ea, hresolve, hstore⟩ := hexec i s hi
  exact ⟨.mem ea, _, hresolve, hstore, rfl, ea, rfl, State.readByte_writeByte_same s ea (v s),
    (ChangesOnly.writeByte s ea (v s)).trans (.advance _ _)⟩

end Safety

namespace Machine

/-! ## The meanings of the loads and the stores -/

variable {i : Instr} (s : State)

/-- R151. -/
theorem exec_eq_loadA (h : i.mnemonic = .LDA) :
    ∃ m, i.operand.value s = some m ∧ exec i s = loadA m (BitVec.ofNat 16 i.length) s := by
  cases i with
  | ldaImm | ldaZp | ldaZpx | ldaAbs | ldaAbx | ldaAby | ldaIzx | ldaIzy => exact ⟨_, rfl, rfl⟩
  | _ => cases h

/-- R152. -/
theorem exec_eq_loadX (h : i.mnemonic = .LDX) :
    ∃ m, i.operand.value s = some m ∧ exec i s = loadX m (BitVec.ofNat 16 i.length) s := by
  cases i with
  | ldxImm | ldxZp | ldxZpy | ldxAbs | ldxAby => exact ⟨_, rfl, rfl⟩
  | _ => cases h

/-- R153. -/
theorem exec_eq_loadY (h : i.mnemonic = .LDY) :
    ∃ m, i.operand.value s = some m ∧ exec i s = loadY m (BitVec.ofNat 16 i.length) s := by
  cases i with
  | ldyImm | ldyZp | ldyZpx | ldyAbs | ldyAbx => exact ⟨_, rfl, rfl⟩
  | _ => cases h

/-- R154. -/
theorem exec_eq_storeA (h : i.mnemonic = .STA) :
    ∃ ea, i.operand.resolve s = some (.mem ea) ∧ exec i s = storeByte s.a ea (BitVec.ofNat 16 i.length) s := by
  cases i with
  | staZp | staZpx | staAbs | staAbx | staAby | staIzx | staIzy => exact ⟨_, rfl, rfl⟩
  | _ => cases h

/-- R155. -/
theorem exec_eq_storeX (h : i.mnemonic = .STX) :
    ∃ ea, i.operand.resolve s = some (.mem ea) ∧ exec i s = storeByte s.x ea (BitVec.ofNat 16 i.length) s := by
  cases i with
  | stxZp | stxZpy | stxAbs => exact ⟨_, rfl, rfl⟩
  | _ => cases h

/-- R156. -/
theorem exec_eq_storeY (h : i.mnemonic = .STY) :
    ∃ ea, i.operand.resolve s = some (.mem ea) ∧ exec i s = storeByte s.y ea (BitVec.ofNat 16 i.length) s := by
  cases i with
  | styZp | styZpx | styAbs => exact ⟨_, rfl, rfl⟩
  | _ => cases h

end Machine

namespace Proofs

open Machine Safety

/-- Settles O17: the forms are those of the matrix, and a load is a register write, Z and N, and the advance of PC, each
with its own frame. -/
theorem loadsPutOperandInRegister : Obligations.LoadsPutOperandInRegister := by
  refine ⟨formsAre_of_perm_matrixForms (by decide) (by decide), formsAre_of_perm_matrixForms (by decide) (by decide),
    formsAre_of_perm_matrixForms (by decide) (by decide), readsOperand_of (fun _ s h => exec_eq_loadA s h) ?lda,
    readsOperand_of (fun _ s h => exec_eq_loadX s h) ?ldx, readsOperand_of (fun _ s h => exec_eq_loadY s h) ?ldy⟩
  all_goals intro s m len
  case lda => exact ⟨_, rfl, rfl, rfl, .of_setZN rfl, (ChangesOnly.setA s m).setZN_advance m len⟩
  case ldx => exact ⟨_, rfl, rfl, rfl, .of_setZN rfl, (ChangesOnly.setX s m).setZN_advance m len⟩
  case ldy => exact ⟨_, rfl, rfl, rfl, .of_setZN rfl, (ChangesOnly.setY s m).setZN_advance m len⟩

/-- Settles O18: the forms are those of the matrix, and every form of a store is `storeByte` at its own address. -/
theorem storesPutRegisterInMemory : Obligations.StoresPutRegisterInMemory :=
  ⟨formsAre_of_perm_matrixForms (by decide) (by decide), formsAre_of_perm_matrixForms (by decide) (by decide),
    formsAre_of_perm_matrixForms (by decide) (by decide), usesLocation_of_storeByte fun _ s h => exec_eq_storeA s h,
    usesLocation_of_storeByte fun _ s h => exec_eq_storeX s h,
    usesLocation_of_storeByte fun _ s h => exec_eq_storeY s h⟩

end Proofs

end Sys2Proof
end

section
/-! The arithmetic and logic family (42_arith_logic_compare.md): the frame of a flag write, the sum of ADD8 as an exact
sum (R115), and the meanings of ADC, AND, EOR, ORA and BIT (R171, R174 to R177). -/

namespace Sys2Proof

namespace Safety

open Machine

/-! ## Frames -/

/-- A frame may be stated with longer lists. -/
theorem ChangesOnly.mono {r r' : List Reg} {f f' : List Flag} {c c' : List Word} {s t : State}
    (h : ChangesOnly r f c s t) (hr : r ⊆ r') (hf : f ⊆ f') (hc : c ⊆ c') : ChangesOnly r' f' c' s t where
  regs_kept q hq := h.regs_kept q (mt (@hr q) hq)
  flags_kept q hq := h.flags_kept q (mt (@hf q) hq)
  cells_kept q hq := h.cells_kept q (mt (@hc q) hq)
  config_kept := h.config_kept

/-- R237. -/
theorem ChangesOnly.putFlag (s : State) (f : Flag) (on : Bool) : ChangesOnly [] [f] [] s (s.putFlag f on) where
  regs_kept r _ := by cases r <;> rfl
  flags_kept g hg := by rw [State.flag_putFlag, if_neg (mt List.mem_singleton.2 hg)]
  cells_kept _ _ := rfl
  config_kept := rfl

end Safety

namespace Machine

/-! ## ADD8 is the exact sum (R115) -/

theorem add8_r_toNat (a m : Byte) (cin : Bool) : (add8 a m cin).r.toNat = (a.toNat + m.toNat + cin.toNat) % 256 :=
  BitVec.toNat_ofNat _ 8

theorem add8_cout_iff (a m : Byte) (cin : Bool) : (add8 a m cin).cout = true ↔ 255 < a.toNat + m.toNat + cin.toNat :=
  decide_eq_true_iff

/-- R115: the bit `v` says that the result has the sign of neither operand. -/
theorem add8_v_iff_sign (a m : Byte) (cin : Bool) :
    (add8 a m cin).v = true ↔
      ¬ (a.toInt < 0 ↔ (add8 a m cin).r.toInt < 0) ∧ ¬ (m.toInt < 0 ↔ (add8 a m cin).r.toInt < 0) := by
  have hv : (add8 a m cin).v = ((a ^^^ (add8 a m cin).r) &&& (m ^^^ (add8 a m cin).r)).msb :=
    (BitVec.msb_eq_getLsbD_last _).symm
  rw [hv, BitVec.msb_and, BitVec.msb_xor, BitVec.msb_xor]
  simp [BitVec.msb_eq_toInt]

/-- The unsigned and the signed sum are one byte. -/
theorem add8_r_eq_ofInt (a m : Byte) (cin : Bool) :
    (add8 a m cin).r = BitVec.ofInt 8 (a.toInt + m.toInt + (cin.toNat : Int)) := by
  simp [add8, BitVec.ofInt_add, BitVec.ofNat_add]

/-- R171: the result has the sign of neither operand exactly when the signed sum leaves -128 to 127. -/
theorem add8_v_iff (a m : Byte) (cin : Bool) :
    (add8 a m cin).v = true ↔
      a.toInt + m.toInt + (cin.toNat : Int) < -128 ∨ 127 < a.toInt + m.toInt + (cin.toNat : Int) := by
  have hcin := cin.toNat_lt
  have ha := And.intro a.le_toInt a.toInt_lt
  have hm := And.intro m.le_toInt m.toInt_lt
  rw [add8_v_iff_sign, add8_r_eq_ofInt, BitVec.toInt_ofInt, Int.bmod_def]
  omega

/-! ## The meanings -/

variable {i : Instr} (s : State)

/-- R171. -/
theorem exec_eq_addWithCarry (h : i.mnemonic = .ADC) :
    ∃ m, i.operand.value s = some m ∧ exec i s = addWithCarry m (BitVec.ofNat 16 i.length) s := by
  cases i with
  | adcImm | adcZp | adcZpx | adcAbs | adcAbx | adcAby | adcIzx | adcIzy => exact ⟨_, rfl, rfl⟩
  | _ => cases h

/-- R174. -/
theorem exec_eq_andByte (h : i.mnemonic = .AND) :
    ∃ m, i.operand.value s = some m ∧ exec i s = andByte m (BitVec.ofNat 16 i.length) s := by
  cases i with
  | andImm | andZp | andZpx | andAbs | andAbx | andAby | andIzx | andIzy => exact ⟨_, rfl, rfl⟩
  | _ => cases h

/-- R175. -/
theorem exec_eq_eorByte (h : i.mnemonic = .EOR) :
    ∃ m, i.operand.value s = some m ∧ exec i s = eorByte m (BitVec.ofNat 16 i.length) s := by
  cases i with
  | eorImm | eorZp | eorZpx | eorAbs | eorAbx | eorAby | eorIzx | eorIzy => exact ⟨_, rfl, rfl⟩
  | _ => cases h

/-- R176. -/
theorem exec_eq_oraByte (h : i.mnemonic = .ORA) :
    ∃ m, i.operand.value s = some m ∧ exec i s = oraByte m (BitVec.ofNat 16 i.length) s := by
  cases i with
  | oraImm | oraZp | oraZpx | oraAbs | oraAbx | oraAby | oraIzx | oraIzy => exact ⟨_, rfl, rfl⟩
  | _ => cases h

/-- R177. -/
theorem exec_eq_testBits (h : i.mnemonic = .BIT) :
    ∃ m, i.operand.value s = some m ∧ exec i s = testBits m (BitVec.ofNat 16 i.length) s := by
  cases i with
  | bitZp | bitAbs => exact ⟨_, rfl, rfl⟩
  | _ => cases h

end Machine

namespace Safety

open Machine

/-! ## The effect of the shared operations -/

/-- R171, R173: what the end of ADC and SBC leaves, whatever the sum. -/
theorem putSum_effect (sum : Sum8) (len : Word) (s : State) :
    ∃ t, putSum sum len s = .next t ∧ t.pc = s.pc + len ∧ t.a = sum.r ∧ t.flag .c = sum.cout ∧ t.flag .v = sum.v ∧
      ZNFrom sum.r t ∧ ChangesOnly [.a] [.c, .z, .v, .n] [] s t := by
  have hframe := ((((ChangesOnly.setA s sum.r).trans (.putFlag _ .c sum.cout)).trans (.putFlag _ .v sum.v)).trans
    (.setZN _ sum.r)).trans (.advance _ len)
  exact ⟨_, rfl, rfl, rfl, by simp, by simp, .of_setZN rfl, hframe.mono (by decide) (by decide) (by decide)⟩

/-- R177. -/
theorem testBits_effect (m : Byte) (len : Word) (s : State) :
    ∃ t, testBits m len s = .next t ∧ t.pc = s.pc + len ∧ t.flag .n = m.getLsbD 7 ∧ t.flag .v = m.getLsbD 6 ∧
      (t.flag .z = true ↔ s.a &&& m = 0) ∧ ChangesOnly [] [.z, .v, .n] [] s t := by
  have hframe := (((ChangesOnly.putFlag s .n (m.getLsbD 7)).trans (.putFlag _ .v (m.getLsbD 6))).trans
    (.putFlag _ .z (s.a &&& m == 0))).trans (.advance _ len)
  exact ⟨_, rfl, rfl, by simp, by simp, by simp, hframe.mono (by decide) (by decide) (by decide)⟩

end Safety

namespace Proofs

open Machine Safety

/-- Settles O21: the forms are those of the matrix, and what `putSum` leaves of ADD8's outputs is the exact sum. -/
theorem addWithCarryIsExactSum : Obligations.AddWithCarryIsExactSum := by
  refine ⟨formsAre_of_perm_matrixForms (by decide) (by decide),
    readsOperand_of (fun _ s h => exec_eq_addWithCarry s h) fun s m len => ?_⟩
  obtain ⟨t, hnext, hpc, ha, hc, hv, hzn, hframe⟩ := putSum_effect (add8 s.a m (s.flag .c)) len s
  exact ⟨t, hnext, hpc, ha ▸ add8_r_toNat _ _ _, hc ▸ add8_cout_iff _ _ _, hv ▸ add8_v_iff _ _ _, ha ▸ hzn, hframe⟩

/-- Settles O24: the forms are those of the matrix, and each operation is a write of A, Z and N, and the advance of PC,
each with its own frame. -/
theorem logicCombinesBitwise : Obligations.LogicCombinesBitwise := by
  refine ⟨formsAre_of_perm_matrixForms (by decide) (by decide), formsAre_of_perm_matrixForms (by decide) (by decide),
    formsAre_of_perm_matrixForms (by decide) (by decide), readsOperand_of (fun _ s h => exec_eq_andByte s h) ?and,
    readsOperand_of (fun _ s h => exec_eq_eorByte s h) ?eor, readsOperand_of (fun _ s h => exec_eq_oraByte s h) ?ora⟩
  all_goals
    intro s m len
    exact ⟨_, rfl, rfl, rfl, .of_setZN rfl, (ChangesOnly.setA s _).setZN_advance _ len⟩

/-- Settles O25: the forms are those of the matrix, and every form of BIT is `testBits` of its operand byte. -/
theorem bitTestsOperandBits : Obligations.BitTestsOperandBits :=
  ⟨formsAre_of_perm_matrixForms (by decide) (by decide),
    readsOperand_of (fun _ s h => exec_eq_testBits s h) fun s m len => testBits_effect m len s⟩

end Proofs

end Sys2Proof
end

section
/-! The shift and increment family (43_shift_incdec.md): each shift or rotate bit by bit (R119 to R123), the nine-bit ring
of a rotate (R193), the effect of one shift at an operand location (R190), and the meanings of the shifts, INC and DEC
(R191 to R196); a mnemonic of one instruction, as INX, INY, DEX and DEY are (R197 to R200). -/

namespace Sys2Proof

namespace Machine

/-! ## The bytes of a shift, a rotate, an increment and a decrement -/

theorem asl8_getLsbD_zero (v : Byte) : (asl8 v).1.getLsbD 0 = false := by simp [asl8]

theorem asl8_getLsbD_succ (v : Byte) {k : Nat} (hk : k < 7) : (asl8 v).1.getLsbD (k + 1) = v.getLsbD k := by
  simpa [asl8] using fun _ => Nat.succ_lt_succ hk

theorem lsr8_getLsbD_seven (v : Byte) : (lsr8 v).1.getLsbD 7 = false := by simp [lsr8]

theorem lsr8_getLsbD (v : Byte) (k : Nat) : (lsr8 v).1.getLsbD k = v.getLsbD (k + 1) := by
  simp [lsr8, Nat.add_comm]

theorem rol8_getLsbD_zero (v : Byte) (c : Bool) : (rol8 v c).1.getLsbD 0 = c := by
  have happ : (rol8 v c).1.getLsbD 0 = _ := BitVec.getLsbD_append (x := v.extractLsb' 0 7)
  rw [happ]
  simp

theorem ror8_getLsbD_seven (v : Byte) (c : Bool) : (ror8 v c).1.getLsbD 7 = c := by
  have happ : (ror8 v c).1.getLsbD 7 = _ := BitVec.getLsbD_append (y := v.extractLsb' 1 7)
  rw [happ]
  simp

theorem inc8_toNat (v : Byte) : (inc8 v).toNat = (v.toNat + 1) % 256 := BitVec.toNat_add v 1

theorem dec8_toNat (v : Byte) : (dec8 v).toNat = (v.toNat + 255) % 256 := by
  rw [Nat.add_comm]
  exact BitVec.toNat_sub v 1

/-! ## The ring of a rotate (R193) -/

/-- One ROL on a byte and a carry. -/
def rolStep (out : Byte × Bool) : Byte × Bool := rol8 out.1 out.2

/-- The nine bits that ROL moves around: the byte's, then the carry. -/
def carryRing (out : Byte × Bool) (k : Fin 9) : Bool := (BitVec.cons out.2 out.1).getLsbD k

theorem carryRing_last (out : Byte × Bool) : carryRing out (Fin.last 8) = out.2 :=
  BitVec.getLsbD_cons out.2 out.1 8

theorem carryRing_castSucc (out : Byte × Bool) (k : Fin 8) : carryRing out k.castSucc = out.1.getLsbD k := by
  simp [carryRing, BitVec.getLsbD_cons, k.isLt.ne]

theorem carryRing_injective : Function.Injective carryRing := by
  intro p q h
  refine Prod.ext (BitVec.eq_of_getLsbD_eq fun k hk => ?byte) ?carry
  case byte =>
    rw [← carryRing_castSucc p ⟨k, hk⟩, h, carryRing_castSucc]
  case carry => rw [← carryRing_last, h, carryRing_last]

/-- ROL moves every bit of the ring on by one place. -/
theorem carryRing_rolStep (out : Byte × Bool) (k : Fin 9) : carryRing (rolStep out) (k + 1) = carryRing out k := by
  induction k using Fin.lastCases with
  | last =>
    rw [carryRing_last]
    exact (carryRing_castSucc (rolStep out) 0).trans (rol8_getLsbD_zero out.1 out.2)
  | cast k =>
    rw [Fin.coeSucc_eq_succ, carryRing_castSucc]
    induction k using Fin.lastCases with
    | last => exact carryRing_last (rolStep out)
    | cast k =>
      exact (carryRing_castSucc (rolStep out) k.succ).trans (rol8_getLsbD_succ out.1 out.2 k.isLt)

theorem carryRing_rolStep_iterate (out : Byte × Bool) (n : Nat) (k : Fin 9) :
    carryRing (rolStep^[n] out) (k + n • 1) = carryRing out k := by
  induction n with
  | zero => simp
  | succ n ih => rw [Function.iterate_succ_apply', succ_nsmul, ← add_assoc, carryRing_rolStep, ih]

/-- R193: nine places on the ring of nine bits are one turn. -/
theorem rolStep_iterate_nine (out : Byte × Bool) : rolStep^[9] out = out := by
  have hturn : (9 • 1 : Fin 9) = 0 := by decide
  refine carryRing_injective (funext fun k => ?_)
  rw [← carryRing_rolStep_iterate out 9 k, hturn, add_zero]

/-! ## The meanings -/

variable {i : Instr} (s : State)

/-- R191. -/
theorem exec_eq_aslAt (h : i.mnemonic = .ASL) :
    ∃ l, i.operand.resolve s = some l ∧ exec i s = aslAt l (BitVec.ofNat 16 i.length) s := by
  cases i with
  | aslAcc | aslZp | aslZpx | aslAbs | aslAbx => exact ⟨_, rfl, rfl⟩
  | _ => cases h

/-- R192. -/
theorem exec_eq_lsrAt (h : i.mnemonic = .LSR) :
    ∃ l, i.operand.resolve s = some l ∧ exec i s = lsrAt l (BitVec.ofNat 16 i.length) s := by
  cases i with
  | lsrAcc | lsrZp | lsrZpx | lsrAbs | lsrAbx => exact ⟨_, rfl, rfl⟩
  | _ => cases h

/-- R193. -/
theorem exec_eq_rolAt (h : i.mnemonic = .ROL) :
    ∃ l, i.operand.resolve s = some l ∧ exec i s = rolAt l (BitVec.ofNat 16 i.length) s := by
  cases i with
  | rolAcc | rolZp | rolZpx | rolAbs | rolAbx => exact ⟨_, rfl, rfl⟩
  | _ => cases h

/-- R194. -/
theorem exec_eq_rorAt (h : i.mnemonic = .ROR) :
    ∃ l, i.operand.resolve s = some l ∧ exec i s = rorAt l (BitVec.ofNat 16 i.length) s := by
  cases i with
  | rorAcc | rorZp | rorZpx | rorAbs | rorAbx => exact ⟨_, rfl, rfl⟩
  | _ => cases h

/-- R195. -/
theorem exec_eq_incrementAt (h : i.mnemonic = .INC) :
    ∃ ea, i.operand.resolve s = some (.mem ea) ∧ exec i s = incrementAt ea (BitVec.ofNat 16 i.length) s := by
  cases i with
  | incZp | incZpx | incAbs | incAbx => exact ⟨_, rfl, rfl⟩
  | _ => cases h

/-- R196. -/
theorem exec_eq_decrementAt (h : i.mnemonic = .DEC) :
    ∃ ea, i.operand.resolve s = some (.mem ea) ∧ exec i s = decrementAt ea (BitVec.ofNat 16 i.length) s := by
  cases i with
  | decZp | decZpx | decAbs | decAbx => exact ⟨_, rfl, rfl⟩
  | _ => cases h

end Machine

/-! ## Mnemonics with one form -/

namespace Instr

theorem eq_inx_of_mnemonic {i : Instr} (h : i.mnemonic = .INX) : i = .inx := by
  cases i with
  | inx => rfl
  | _ => cases h

theorem eq_iny_of_mnemonic {i : Instr} (h : i.mnemonic = .INY) : i = .iny := by
  cases i with
  | iny => rfl
  | _ => cases h

theorem eq_dex_of_mnemonic {i : Instr} (h : i.mnemonic = .DEX) : i = .dex := by
  cases i with
  | dex => rfl
  | _ => cases h

theorem eq_dey_of_mnemonic {i : Instr} (h : i.mnemonic = .DEY) : i = .dey := by
  cases i with
  | dey => rfl
  | _ => cases h

end Instr

namespace Safety

open Machine

/-! ## The effect of the shared operations -/

/-- R12: a write at an operand location changes what the location stands for at most. -/
theorem ChangesOnly.writeLoc (s : State) (l : Loc) (v : Byte) :
    ChangesOnly (locRegs l) [] (locCells l) s (s.writeLoc l v) := by
  cases l with
  | acc => exact .setA s v
  | mem ea => exact .writeByte s ea v

/-- R190: what a shift leaves, whatever the shift and the location. -/
theorem shiftAt_effect (f : Byte → Byte × Bool) (l : Loc) (len : Word) (s : State) :
    ∃ t, shiftAt f l len s = .next t ∧ t.pc = s.pc + len ∧ t.readLoc l = (f (s.readLoc l)).1 ∧
      t.flag .c = (f (s.readLoc l)).2 ∧ ZNFrom (f (s.readLoc l)).1 t ∧
      ChangesOnly (locRegs l) [.c, .z, .n] (locCells l) s t := by
  have hframe := (((ChangesOnly.writeLoc s l (f (s.readLoc l)).1).trans (.putFlag _ .c (f (s.readLoc l)).2)).trans
    (.setZN _ (f (s.readLoc l)).1)).trans (.advance _ len)
  refine ⟨_, rfl, ?pc, ?result, by simp, .of_setZN rfl, by simpa using hframe⟩
  case pc => cases l <;> rfl
  case result => cases l <;> simp

/-- R195, R196: what an increment or a decrement of memory leaves. -/
theorem stepMemory_effect (f : Byte → Byte) (ea len : Word) (s : State) :
    ∃ t, stepMemory f ea len s = .next t ∧ t.pc = s.pc + len ∧ t.readByte ea = f (s.readByte ea) ∧
      ZNFrom (f (s.readByte ea)) t ∧ ChangesOnly [] [.z, .n] [ea] s t := by
  have hframe := ((ChangesOnly.writeByte s ea (f (s.readByte ea))).trans (.setZN _ (f (s.readByte ea)))).trans
    (.advance _ len)
  exact ⟨_, rfl, rfl, by simp, .of_setZN rfl, hframe⟩

/-! ## From the meaning of a mnemonic to a claim about its forms -/

/-- A claim about a mnemonic with one instruction is a claim about that instruction. -/
theorem completes_of_eq {mn : Mnemonic} {j : Instr} {effect : State → State → Prop}
    (hj : ∀ {i : Instr}, i.mnemonic = mn → i = j)
    (h : ∀ s, ∃ t, exec j s = .next t ∧ Advanced j s t ∧ effect s t) : Completes mn effect := by
  intro i s hi
  obtain rfl := hj hi
  exact h s

/-- A mnemonic whose every form is one shift, on the carry and the byte at its operand location, has the effect that
follows from what R190 leaves. -/
theorem usesLocation_of_shiftAt {mn : Mnemonic} {f : Bool → Byte → Byte × Bool}
    {effect : State → Loc → State → Prop}
    (hexec : ∀ i s, i.mnemonic = mn →
      ∃ l, i.operand.resolve s = some l ∧ exec i s = shiftAt (f (s.flag .c)) l (BitVec.ofNat 16 i.length) s)
    (heffect : ∀ s l t, t.readLoc l = (f (s.flag .c) (s.readLoc l)).1 → t.flag .c = (f (s.flag .c) (s.readLoc l)).2 →
      ZNFrom (t.readLoc l) t → ChangesOnly (locRegs l) [.c, .z, .n] (locCells l) s t → effect s l t) :
    UsesLocation mn effect := by
  intro i s hi
  obtain ⟨l, hresolve, hshift⟩ := hexec i s hi
  obtain ⟨t, hnext, hpc, hresult, hcarry, hzn, hframe⟩ :=
    shiftAt_effect (f (s.flag .c)) l (BitVec.ofNat 16 i.length) s
  exact ⟨l, t, hresolve, hshift.trans hnext, hpc, heffect s l t hresult hcarry (hresult ▸ hzn) hframe⟩

/-- A mnemonic whose every form is `stepMemory` at the address of its operand changes that cell by the step. -/
theorem usesLocation_of_stepMemory {mn : Mnemonic} {f : Byte → Byte} {d : Nat}
    (hf : ∀ v, (f v).toNat = (v.toNat + d) % 256)
    (hexec : ∀ i s, i.mnemonic = mn →
      ∃ ea, i.operand.resolve s = some (.mem ea) ∧ exec i s = stepMemory f ea (BitVec.ofNat 16 i.length) s) :
    UsesLocation mn fun s l t => ∃ ea, l = .mem ea ∧ (t.readByte ea).toNat = ((s.readByte ea).toNat + d) % 256 ∧
      ZNFrom (t.readByte ea) t ∧ ChangesOnly [] [.z, .n] [ea] s t := by
  intro i s hi
  obtain ⟨ea, hresolve, hstep⟩ := hexec i s hi
  obtain ⟨t, hnext, hpc, hresult, hzn, hframe⟩ := stepMemory_effect f ea (BitVec.ofNat 16 i.length) s
  exact ⟨.mem ea, t, hresolve, hstep.trans hnext, hpc, ea, rfl, hresult ▸ hf _, hresult ▸ hzn, hframe⟩

end Safety

namespace Proofs

open Machine Safety

/-- Settles O27: the forms are those of the matrix, and every form is `shiftAt` of ASL8 or LSR8, whose bits are known. -/
theorem shiftsMoveOneBit : Obligations.ShiftsMoveOneBit := by
  refine ⟨formsAre_of_perm_matrixForms (by decide) (by decide), formsAre_of_perm_matrixForms (by decide) (by decide),
    usesLocation_of_shiftAt (f := fun _ => asl8) (fun _ s h => exec_eq_aslAt s h) ?asl,
    usesLocation_of_shiftAt (f := fun _ => lsr8) (fun _ s h => exec_eq_lsrAt s h) ?lsr⟩
  all_goals intro s l t hresult hcarry hzn hframe
  case asl =>
    exact ⟨hresult ▸ asl8_getLsbD_zero _, fun k hk => hresult ▸ asl8_getLsbD_succ _ hk, hcarry, hzn, hframe⟩
  case lsr =>
    have hbit7 : (t.readLoc l).getLsbD 7 = false := hresult ▸ lsr8_getLsbD_seven _
    exact ⟨hbit7, fun k _ => hresult ▸ lsr8_getLsbD _ k, hcarry, hzn, hzn.2.trans hbit7, hframe⟩

/-- Settles O28: the forms are those of the matrix, every form is `shiftAt` of ROL8 or ROR8, and nine ROLs carry every
bit of the ring once around. -/
theorem rotatesMoveThroughCarry : Obligations.RotatesMoveThroughCarry := by
  refine ⟨formsAre_of_perm_matrixForms (by decide) (by decide), formsAre_of_perm_matrixForms (by decide) (by decide),
    usesLocation_of_shiftAt (f := fun c v => rol8 v c) (fun _ s h => exec_eq_rolAt s h) ?rol,
    usesLocation_of_shiftAt (f := fun c v => ror8 v c) (fun _ s h => exec_eq_rorAt s h) ?ror,
    fun v c => rolStep_iterate_nine (v, c)⟩
  all_goals intro s l t hresult hcarry hzn hframe
  case rol =>
    exact ⟨hresult ▸ rol8_getLsbD_zero _ _, fun k hk => hresult ▸ rol8_getLsbD_succ _ _ hk, hcarry, hzn, hframe⟩
  case ror =>
    have hbit7 : (t.readLoc l).getLsbD 7 = s.flag .c := hresult ▸ ror8_getLsbD_seven _ _
    exact ⟨hbit7, fun k hk => hresult ▸ ror8_getLsbD _ _ hk, hcarry, hzn, hzn.2.trans hbit7, hframe⟩

/-- Settles O29: the forms are those of the matrix, and every form is `stepMemory` of INC8 or DEC8 at its own address. -/
theorem memoryIncrementAndDecrement : Obligations.MemoryIncrementAndDecrement :=
  ⟨formsAre_of_perm_matrixForms (by decide) (by decide), formsAre_of_perm_matrixForms (by decide) (by decide),
    usesLocation_of_stepMemory inc8_toNat fun _ s h => exec_eq_incrementAt s h,
    usesLocation_of_stepMemory dec8_toNat fun _ s h => exec_eq_decrementAt s h⟩

/-- Settles O30: each mnemonic has one instruction, a write of X or Y, Z and N, and the advance of PC, each with its own
frame. -/
theorem indexIncrementAndDecrement : Obligations.IndexIncrementAndDecrement := by
  refine ⟨formsAre_of_perm_matrixForms (by decide) (by decide), formsAre_of_perm_matrixForms (by decide) (by decide),
    formsAre_of_perm_matrixForms (by decide) (by decide), formsAre_of_perm_matrixForms (by decide) (by decide),
    completes_of_eq Instr.eq_inx_of_mnemonic fun s => ?inx, completes_of_eq Instr.eq_iny_of_mnemonic fun s => ?iny,
    completes_of_eq Instr.eq_dex_of_mnemonic fun s => ?dex, completes_of_eq Instr.eq_dey_of_mnemonic fun s => ?dey⟩
  case inx => exact ⟨_, rfl, rfl, inc8_toNat s.x, .of_setZN rfl, (ChangesOnly.setX s _).setZN_advance _ 1⟩
  case iny => exact ⟨_, rfl, rfl, inc8_toNat s.y, .of_setZN rfl, (ChangesOnly.setY s _).setZN_advance _ 1⟩
  case dex => exact ⟨_, rfl, rfl, dec8_toNat s.x, .of_setZN rfl, (ChangesOnly.setX s _).setZN_advance _ 1⟩
  case dey => exact ⟨_, rfl, rfl, dec8_toNat s.y, .of_setZN rfl, (ChangesOnly.setY s _).setZN_advance _ 1⟩

end Proofs

end Sys2Proof
end

section
/-! The control transfer family (44_control_transfer.md): BEQ and its self-loop (R213), and JMP (R219). -/

namespace Sys2Proof

/-- R213: F0 is BEQ under every configuration, with the byte after it as its displacement. -/
theorem decodeWindow_beq (cfg : Config) (d b2 : Byte) : decodeWindow cfg 0xF0 d b2 = some (.beq d) := by
  have hmapped : decodeOpcode cfg 0xF0 = some (.f2 .beq) := decodeOpcode_other cfg (by decide)
  rw [decodeWindow, hmapped]
  rfl

namespace Machine

/-! ## The meanings -/

section Meanings

variable {i : Instr} (s : State)

/-- R213. -/
theorem exec_eq_branch_of_beq (h : i.mnemonic = .BEQ) :
    ∃ d, i.operand = .rel d ∧ exec i s = branch (s.flag .z) d s := by
  cases i with
  | beq d => exact ⟨d, rfl, rfl⟩
  | _ => cases h

/-- R219. -/
theorem exec_eq_jumpTo (h : i.mnemonic = .JMP) :
    ∃ ea, i.operand.resolve s = some (.mem ea) ∧ exec i s = jumpTo ea s := by
  cases i with
  | jmpAbs | jmpInd => exact ⟨_, rfl, rfl⟩
  | _ => cases h

end Meanings

/-! ## A branch to itself -/

/-- R138: displacement -2 takes back the length of the branch, wherever PC is. -/
theorem eaRel_neg_two (s : State) : eaRel 0xFE s = s.pc := by
  have hcancel : (2 : Word) + sext16 0xFE = 0 := by decide
  rw [eaRel, BitVec.add_assoc, hcancel, add_zero]

theorem branch_neg_two_taken (s : State) : branch true 0xFE s = .next s := by
  rw [branch, if_pos rfl, eaRel_neg_two]
  rfl

theorem step_of_readByte_beq {s : State} (hop : s.readByte s.pc = 0xF0) :
    step s = branch (s.flag .z) (s.readByte (s.pc + 1)) s := by
  have hfetch : fetchInstr s = some (.beq (s.readByte (s.pc + 1))) := by
    rw [fetchInstr, hop, decodeWindow_beq]
  exact step_of_fetch hfetch

end Machine

namespace Safety

open Machine

/-- R210: a mnemonic whose every instruction is `branch` on one condition goes to its target on that condition and
changes nothing but PC. -/
theorem branches_of_branch {mn : Mnemonic} {taken : State → Bool}
    (hexec : ∀ i s, i.mnemonic = mn → ∃ d, i.operand = .rel d ∧ exec i s = branch (taken s) d s) :
    Branches mn taken := by
  intro i s hi
  obtain ⟨d, hoperand, hbranch⟩ := hexec i s hi
  exact ⟨d, hoperand, hbranch⟩

end Safety

namespace Proofs

open Machine Safety

/-- Settles O32: the one form is that of the matrix, BEQ is `branch` on Z, and displacement -2 is a branch to PC. -/
theorem beqTakenWhenZeroSetCanLoopOnItself : Obligations.BeqTakenWhenZeroSetCanLoopOnItself := by
  refine ⟨formsAre_of_perm_matrixForms (by decide) (by decide),
    branches_of_branch fun _ s h => exec_eq_branch_of_beq s h, fun s hop hd hz => ?selfLoop⟩
  case selfLoop => rw [step_of_readByte_beq hop, hd, hz, branch_neg_two_taken]

/-- Settles O33: the two forms are those of the matrix, and each is `jumpTo` at its own address. -/
theorem jumpSetsPcOnly : Obligations.JumpSetsPcOnly :=
  ⟨formsAre_of_perm_matrixForms (by decide) (by decide), fun _ s h => exec_eq_jumpTo s h, fun _ _ => rfl⟩

end Proofs

end Sys2Proof
end

section
/-! The stack, flag and system family (45_stack_flags_system.md): the seven flag instructions, read off R237's table
(R240 to R246), and NOP (R250). -/

namespace Sys2Proof

namespace Machine

/-- R237's table: the flag that an instruction writes to a constant, and the constant. -/
def flagConstant : Mnemonic → Option (Flag × Bool)
  | .CLC => some (.c, false)
  | .SEC => some (.c, true)
  | .CLI => some (.i, false)
  | .SEI => some (.i, true)
  | .CLV => some (.v, false)
  | .CLD => some (.d, false)
  | .SED => some (.d, true)
  | _ => none

/-- R240 to R246: an instruction of R237's table is one byte long and writes the flag of its row. -/
theorem exec_eq_writeFlag {i : Instr} {f : Flag} {on : Bool} (h : flagConstant i.mnemonic = some (f, on)) (s : State) :
    i.length = 1 ∧ exec i s = writeFlag f on s := by
  cases i with
  | clc | sec | cli | sei | clv | cld | sed => cases h; exact ⟨rfl, rfl⟩
  | _ => cases h

end Machine

namespace Instr

theorem eq_nop_of_mnemonic {i : Instr} (h : i.mnemonic = .NOP) : i = .nop := by
  cases i with
  | nop => rfl
  | _ => cases h

end Instr

namespace Safety

open Machine

/-- A mnemonic of R237's table puts its constant into its flag's bit of P and changes nothing else but PC. -/
theorem completes_of_flagConstant {mn : Mnemonic} (f : Flag) (on : Bool) (h : flagConstant mn = some (f, on)) :
    Completes mn fun s t => t.p = putFlag s.p f on ∧ t.flag f = on ∧ ChangesOnly [] [f] [] s t := by
  rintro i s rfl
  obtain ⟨hlength, hexec⟩ := exec_eq_writeFlag h s
  have hpc : Advanced i s ((s.putFlag f on).advance 1) := by rw [Advanced, hlength]; rfl
  exact ⟨_, hexec, hpc, rfl, by simp, (ChangesOnly.putFlag s f on).trans (.advance _ 1)⟩

end Safety

namespace Proofs

open Machine Safety

/-- Settles O41: the forms are those of the matrix, and the masks of the seven rows of R237's table are those of
`putFlag`, by computation. -/
theorem flagInstructionsWriteOneBit : Obligations.FlagInstructionsWriteOneBit := by
  refine ⟨?clc, ?sec, ?cli, ?sei, ?clv, ?cld, ?sed,
    completes_of_flagConstant .c false rfl, completes_of_flagConstant .c true rfl,
    completes_of_flagConstant .i false rfl, completes_of_flagConstant .i true rfl,
    completes_of_flagConstant .v false rfl,
    completes_of_flagConstant .d false rfl, completes_of_flagConstant .d true rfl⟩
  all_goals exact formsAre_of_perm_matrixForms (by decide) (by decide)

/-- Settles O42: the one form is that of the matrix, and the one instruction advances PC by its length. -/
theorem nopAdvancesPcOnly : Obligations.NopAdvancesPcOnly := by
  refine ⟨formsAre_of_perm_matrixForms (by decide) (by decide), fun i s hi => ?next⟩
  obtain rfl := Instr.eq_nop_of_mnemonic hi
  rfl

end Proofs

end Sys2Proof
end

section
/-! The encoding family (30_encoding.md): decoding and encoding are inverse to each other (R80, R83, R86, R87), the
unmapped bytes (R88, R90), and what a step does with the bytes at PC (R110, R260). -/

namespace Sys2Proof

/-! ## From R86's table to R87's matrix -/

/-- The instructions that a format can build. -/
def Format.Builds : Format → Instr → Prop
  | .f1 j, i => j = i
  | .f2 mk, i => ∃ b, mk b = i
  | .f3 mk, i => ∃ w, mk w = i

/-- R83: the cell of R87's matrix at the opcode byte of an instruction's row of R86 builds the instruction. -/
theorem exists_matrixCell_builds (i : Instr) : ∃ f, matrixCell i.opcode = some f ∧ f.Builds i := by
  -- The lookup in the matrix computes once the opcode byte is a literal, free of the operand.
  cases i with
  | aslAcc | lsrAcc | rolAcc | rorAcc | brk | clc | cld | cli | clv | dex | dey | inx | iny | nop | pha | php | pla | plp
  | rti | rts | sec | sed | sei | tax | tay | tsx | txa | txs | tya => exact ⟨_, rfl, rfl⟩
  | _ => dsimp only [Instr.opcode, Instr.row]; exact ⟨_, rfl, _, rfl⟩

/-- R88: the opcode bytes of the transfers are the transfers' own. -/
theorem opcode_mem_transferOpcodes (i : Instr) : i.opcode ∈ transferOpcodes ↔ i.isTransfer = true := by
  cases i with
  | tax | tay | txa | tya => decide
  | _ => exact iff_of_false (by dsimp only [Instr.opcode, Instr.row]; decide) Bool.false_ne_true

/-- R88: an instruction is well-formed exactly when the configuration leaves its cell of the matrix mapped. -/
theorem wellFormed_iff (cfg : Config) (i : Instr) :
    i.wellFormed cfg = true ↔ ¬ (cfg.xferPresent = false ∧ i.opcode ∈ transferOpcodes) := by
  rw [opcode_mem_transferOpcodes, Instr.wellFormed]
  cases cfg.xferPresent <;> simp

theorem decodeOpcode_of_wellFormed {cfg : Config} {i : Instr} (h : i.wellFormed cfg = true) :
    decodeOpcode cfg i.opcode = matrixCell i.opcode :=
  if_neg ((wellFormed_iff cfg i).1 h)

/-- A format that builds an instruction reads it back from the bytes the encoder gives it. -/
theorem Format.read_of_builds {f : Format} {op : Byte} {i : Instr} (henc : f.EncodesAs op) (hb : f.Builds i)
    (rest : List Byte) : f.read (i.operand.bytes ++ rest) = .instr i rest := by
  cases f with
  | f1 j => obtain rfl := hb; rw [(List.cons.inj henc).2]; rfl
  | f2 mk => obtain ⟨b, rfl⟩ := hb; rw [(List.cons.inj (henc b)).2]; rfl
  | f3 mk =>
    obtain ⟨w, rfl⟩ := hb
    rw [(List.cons.inj (henc w)).2]
    exact congrArg (fun v => Decoded.instr (mk v) rest) (wordOf_hiByte_loByte w)

/-! ## From the bytes to the instruction -/

/-- The bytes a format reads an instruction from are, with the opcode byte, the encoding of the instruction. -/
theorem Format.encode_of_read {f : Format} {op : Byte} {bytes rest : List Byte} {i : Instr} (henc : f.EncodesAs op)
    (h : f.read bytes = .instr i rest) : op :: bytes = encode i ++ rest := by
  cases f with
  | f1 j => cases h; rw [henc]; rfl
  | f2 mk =>
    cases bytes with
    | nil => cases h
    | cons b bytes => cases h; rw [henc]; rfl
  | f3 mk =>
    match bytes, h with
    | lo :: hi :: bytes, rfl => rw [henc, loByte_wordOf, hiByte_wordOf]; rfl

/-- A byte sequence decodes to an instruction through the format that its first byte has. -/
theorem exists_format_of_decode {cfg : Config} {bytes rest : List Byte} {i : Instr}
    (h : decode cfg bytes = .instr i rest) :
    ∃ op tail f, bytes = op :: tail ∧ decodeOpcode cfg op = some f ∧ f.read tail = .instr i rest := by
  cases bytes with
  | nil => cases h
  | cons op tail =>
    cases hf : decodeOpcode cfg op with
    | none => rw [decode_of_none hf] at h; cases h
    | some f => exact ⟨op, tail, f, rfl, hf, by rwa [decode_of_some hf] at h⟩

theorem mapped_of_decodeOpcode {cfg : Config} {op : Byte} {f : Format} (h : decodeOpcode cfg op = some f) :
    ¬ (cfg.xferPresent = false ∧ op ∈ transferOpcodes) := by
  intro hunmapped
  rw [decodeOpcode, if_pos hunmapped] at h
  cases h

/-! ## The unmapped bytes -/

/-- The opcode bytes whose cell of R87's matrix is empty, rising. -/
def unmappedCells : List Byte := ((List.range 256).map (BitVec.ofNat 8)).filter fun op => (matrixCell op).isNone

theorem matrixCell_eq_none_iff {l : List Byte} (hl : unmappedCells = l) (op : Byte) : matrixCell op = none ↔ op ∈ l := by
  have hbyte : op ∈ (List.range 256).map (BitVec.ofNat 8) :=
    List.mem_map.2 ⟨op.toNat, List.mem_range.2 op.isLt, by simp⟩
  rw [← hl, unmappedCells, List.mem_filter, Option.isNone_iff_eq_none]
  exact (and_iff_right hbyte).symm

theorem decodeOpcode_eq_none_iff (cfg : Config) (op : Byte) :
    decodeOpcode cfg op = none ↔ matrixCell op = none ∨ (cfg.xferPresent = false ∧ op ∈ transferOpcodes) := by
  by_cases h : cfg.xferPresent = false ∧ op ∈ transferOpcodes
  · simp [decodeOpcode, h]
  · simp only [decodeOpcode, if_neg h, or_iff_left h]

/-- R90: 0xFF is unmapped under every configuration. -/
theorem decodeOpcode_ff (cfg : Config) : decodeOpcode cfg 0xFF = none :=
  decodeOpcode_other cfg (by decide)

namespace Machine

/-- R260: the report is the answer exactly to an unmapped byte at PC. -/
theorem step_reports_iff (s : State) :
    step s = .fault (.unsupportedOpcode s.pc (s.readByte s.pc)) ↔ decodeOpcode s.config (s.readByte s.pc) = none := by
  rw [← fetchInstr_eq_none]
  refine ⟨fun hfault => ?_, step_of_no_fetch⟩
  obtain ⟨t, hnext⟩ | ⟨hfetch, -⟩ := step_completes_or_reports s
  · cases hnext.symm.trans hfault
  · exact hfetch

end Machine

namespace Proofs

open Machine

/-- Settles O1: the matrix builds, at the opcode byte of each row of R86, the row's instruction from its operand bytes. -/
theorem decodeOfEncodeIsInstruction : Obligations.DecodeOfEncodeIsInstruction := by
  intro cfg i rest hwf
  obtain ⟨f, hcell, hbuilds⟩ := exists_matrixCell_builds i
  have hf : decodeOpcode cfg i.opcode = some f := (decodeOpcode_of_wellFormed hwf).trans hcell
  exact (decode_of_some hf _).trans (Format.read_of_builds (encodesAs_of_decodeOpcode hf) hbuilds rest)

/-- Settles O2: what a format reads is encoded as the bytes read, and a mapped byte is no absent transfer's. -/
theorem encodeOfDecodedIsBytes : Obligations.EncodeOfDecodedIsBytes := by
  intro cfg bytes rest i h
  obtain ⟨op, tail, f, rfl, hf, hread⟩ := exists_format_of_decode h
  have hbytes := Format.encode_of_read (encodesAs_of_decodeOpcode hf) hread
  obtain rfl : op = i.opcode := (List.cons.inj hbytes).1
  exact ⟨hbytes, (wellFormed_iff cfg i).2 (mapped_of_decodeOpcode hf)⟩

/-- Settles O3: the decoder computes on the thirteen rows. -/
theorem sampleBytesDecode : Obligations.SampleBytesDecode := by
  unfold Obligations.SampleBytesDecode
  decide

/-- Settles O4: the list of R90 is the list of the empty cells of the matrix, in its order. -/
theorem unmappedOpcodesAreTheListed : Obligations.UnmappedOpcodesAreTheListed := fun cfg op _ =>
  decode_eq_unmapped.trans ((decodeOpcode_eq_none_iff cfg op).trans
    (or_congr_left (matrixCell_eq_none_iff (by decide) op)))

/-- Settles O5: the decoder on the three bytes is the fetch. -/
theorem stepRunsDecodedInstruction : Obligations.StepRunsDecodedInstruction := fun _ _ _ h =>
  step_of_fetch (decodeWindow_of_decode h)

/-- Settles O7: a fetched instruction completes, so the report is the answer to an unmapped byte only. -/
theorem unmappedOpcodeReportsPcAndByte : Obligations.UnmappedOpcodeReportsPcAndByte := by
  refine ⟨step_reports_iff, fun s hop => ?_⟩
  have hreport := (step_reports_iff s).2 (hop ▸ decodeOpcode_ff s.config)
  rwa [hop] at hreport

end Proofs

end Sys2Proof
end

section
/-! What every instruction leaves unchanged: the frame of each state operation (R29, R30, R237) and of each instruction
(R21, R22, R26, R31, R59), the advance of PC (R110, R111), and the canonical form of memory. -/

namespace Sys2Proof

namespace Safety

open Machine

/-! ## Frames of the remaining state operations -/

theorem ChangesOnly.mono_regs {r r' : List Reg} {f : List Flag} {c : List Word} {s t : State}
    (h : ChangesOnly r f c s t) (hr : r ⊆ r') : ChangesOnly r' f c s t :=
  h.mono hr (List.Subset.refl f) (List.Subset.refl c)

theorem ChangesOnly.setSp (s : State) (v : Byte) : ChangesOnly [.sp] [] [] s (s.setSp v) := by
  refine .of_regs (fun r hr => ?_) rfl rfl rfl
  cases r with
  | sp => exact absurd (List.mem_singleton.2 rfl) hr
  | a | x | y => rfl

/-- R111: PC is outside every frame. -/
theorem ChangesOnly.setPc (s : State) (v : Word) : ChangesOnly [] [] [] s (s.setPc v) :=
  .of_regs (fun r _ => by cases r <;> rfl) rfl rfl rfl

/-- R26: PLP and RTI write every flag. -/
theorem ChangesOnly.setP (s : State) (v : Byte) : ChangesOnly [] [.c, .z, .i, .d, .b, .u, .v, .n] [] s (s.setP v) where
  regs_kept r _ := by cases r <;> rfl
  flags_kept f hf := absurd (by cases f <;> decide) hf
  cells_kept _ _ := rfl
  config_kept := rfl

/-- R29. -/
theorem ChangesOnly.push (s : State) (v : Byte) : ChangesOnly [.sp] [] [stackAddr s.sp] s (s.push v) :=
  (ChangesOnly.writeByte s (stackAddr s.sp) v).trans (.setSp _ (s.sp - 1))

/-- R30. -/
theorem ChangesOnly.pulled (s : State) : ChangesOnly [.sp] [] [] s s.pulled := .setSp s (s.sp + 1)

/-- R220, R251. -/
theorem ChangesOnly.pushWord (s : State) (w : Word) :
    ChangesOnly [.sp] [] [stackAddr s.sp, stackAddr (s.sp - 1)] s (s.pushWord w) :=
  ((ChangesOnly.push s (hiByte w)).trans (.push _ (loByte w))).mono_regs (by decide)

/-- R251: BRK writes its frame of three cells, and I at most. -/
theorem ChangesOnly.enterInterrupt (s : State) :
    ChangesOnly [.sp] [.i] [stackAddr s.sp, stackAddr (s.sp - 1), stackAddr (s.sp - 2)] s (enterInterrupt s) where
  regs_kept r hr := by
    cases r with
    | sp => exact absurd (List.mem_singleton.2 rfl) hr
    | a | x | y => simp [reg]
  flags_kept f hf := by
    have hi : f ≠ .i := mt List.mem_singleton.2 hf
    rw [State.flag_eq_getFlag, enterInterrupt_p]
    split
    · rw [getFlag_putFlag, if_neg hi, State.flag_eq_getFlag]
    · rfl
  cells_kept c hc := by
    have hsp : s.sp - 2 = s.sp - 1 - 1 := by bv_omega
    have hframe := (ChangesOnly.pushWord s (s.pc + 2)).trans (.push _ (pushedStatus s.p))
    rw [hsp] at hc
    rw [← hframe.cells_kept c hc]
    exact congrArg (·.read c.toNat) (enterInterrupt_mem s)
  config_kept := enterInterrupt_config s

/-- R252. -/
theorem ChangesOnly.returnFromInterrupt (s : State) :
    ChangesOnly [.sp] [.c, .z, .i, .d, .b, .u, .v, .n] [] s (returnFromInterrupt s) :=
  (((((ChangesOnly.pulled s).trans (.pulled _)).trans (.pulled _)).trans (.setP _ _)).trans (.setPc _ _)).mono
    (by decide) (by decide) (by decide)

end Safety

namespace Machine

open Safety

/-! ## The frame of an instruction -/

/-- R21, R22, R26, R31, R59: an instruction changes what the spec lists for it at most. -/
theorem exists_exec_changesOnly (i : Instr) (s : State) :
    ∃ t, exec i s = .next t ∧ ChangesOnly (regsWritten i) (flagsWritten i.mnemonic) (cellsWritten i s) s t := by
  cases i with
  | ldaImm | ldaZp | ldaZpx | ldaAbs | ldaAbx | ldaAby | ldaIzx | ldaIzy
  | andImm | andZp | andZpx | andAbs | andAbx | andAby | andIzx | andIzy
  | eorImm | eorZp | eorZpx | eorAbs | eorAbx | eorAby | eorIzx | eorIzy
  | oraImm | oraZp | oraZpx | oraAbs | oraAbx | oraAby | oraIzx | oraIzy
  | txa | tya => exact ⟨_, rfl, (ChangesOnly.setA s _).setZN_advance _ _⟩
  | ldxImm | ldxZp | ldxZpy | ldxAbs | ldxAby | tax | tsx | inx | dex =>
    exact ⟨_, rfl, (ChangesOnly.setX s _).setZN_advance _ _⟩
  | ldyImm | ldyZp | ldyZpx | ldyAbs | ldyAbx | tay | iny | dey =>
    exact ⟨_, rfl, (ChangesOnly.setY s _).setZN_advance _ _⟩
  | adcImm | adcZp | adcZpx | adcAbs | adcAbx | adcAby | adcIzx | adcIzy
  | sbcImm | sbcZp | sbcZpx | sbcAbs | sbcAbx | sbcAby | sbcIzx | sbcIzy =>
    obtain ⟨t, hnext, -, -, -, -, -, hframe⟩ := putSum_effect _ _ s
    exact ⟨t, hnext, hframe⟩
  | cmpImm | cmpZp | cmpZpx | cmpAbs | cmpAbx | cmpAby | cmpIzx | cmpIzy
  | cpxImm | cpxZp | cpxAbs | cpyImm | cpyZp | cpyAbs =>
    exact ⟨_, rfl, ((ChangesOnly.putFlag s _ _).trans (.setZN _ _)).trans (.advance _ _)⟩
  | bitZp | bitAbs =>
    obtain ⟨t, hnext, -, -, -, -, hframe⟩ := testBits_effect _ _ s
    exact ⟨t, hnext, hframe⟩
  | aslAcc | lsrAcc | rolAcc | rorAcc =>
    exact ⟨_, rfl, (((ChangesOnly.setA s _).trans (.putFlag _ _ _)).trans (.setZN _ _)).trans (.advance _ _)⟩
  | aslZp | aslZpx | aslAbs | aslAbx | lsrZp | lsrZpx | lsrAbs | lsrAbx
  | rolZp | rolZpx | rolAbs | rolAbx | rorZp | rorZpx | rorAbs | rorAbx =>
    exact ⟨_, rfl, (((ChangesOnly.writeByte s _ _).trans (.putFlag _ _ _)).trans (.setZN _ _)).trans (.advance _ _)⟩
  | incZp | incZpx | incAbs | incAbx | decZp | decZpx | decAbs | decAbx =>
    exact ⟨_, rfl, ((ChangesOnly.writeByte s _ _).trans (.setZN _ _)).trans (.advance _ _)⟩
  | staZp | staZpx | staAbs | staAbx | staAby | staIzx | staIzy | stxZp | stxZpy | stxAbs | styZp | styZpx | styAbs =>
    exact ⟨_, rfl, (ChangesOnly.writeByte s _ _).trans (.advance _ _)⟩
  | clc | sec | cli | sei | clv | cld | sed => exact ⟨_, rfl, (ChangesOnly.putFlag s _ _).trans (.advance _ _)⟩
  | bcc | bcs | beq | bne | bmi | bpl | bvc | bvs | jmpAbs | jmpInd | nop => exact ⟨_, rfl, .setPc s _⟩
  | pha | php => exact ⟨_, rfl, (ChangesOnly.push s _).trans (.advance _ _)⟩
  | pla => exact ⟨_, rfl, (((ChangesOnly.pulled s).trans (.setA _ _)).mono_regs (by decide)).setZN_advance _ _⟩
  | plp => exact ⟨_, rfl, ((ChangesOnly.pulled s).trans (.setP _ _)).trans (.advance _ _)⟩
  | txs => exact ⟨_, rfl, (ChangesOnly.setSp s _).trans (.advance _ _)⟩
  | jsr => exact ⟨_, rfl, (ChangesOnly.pushWord s _).trans (.setPc _ _)⟩
  | rts => exact ⟨_, rfl, (((ChangesOnly.pulled s).trans (.pulled _)).trans (.setPc _ _)).mono_regs (by decide)⟩
  | brk => exact ⟨_, rfl, .enterInterrupt s⟩
  | rti => exact ⟨_, rfl, .returnFromInterrupt s⟩

theorem exec_changesOnly {i : Instr} {s t : State} (h : exec i s = .next t) :
    ChangesOnly (regsWritten i) (flagsWritten i.mnemonic) (cellsWritten i s) s t := by
  obtain ⟨t', hnext, hframe⟩ := exists_exec_changesOnly i s
  cases hnext.symm.trans h
  exact hframe

/-! ## PC -/

/-- R110: an instruction that does not assign PC itself advances it by its length. -/
theorem exists_exec_advanced {i : Instr} (h : i.mnemonic ∉ setsPc) (s : State) :
    ∃ t, exec i s = .next t ∧ Advanced i s t := by
  cases i with
  | jmpAbs | jmpInd | jsr | rts | rti | bcc | bcs | beq | bne | bmi | bpl | bvc | bvs | brk =>
    exact absurd (of_decide_eq_true rfl) h
  | _ => exact ⟨_, rfl, rfl⟩

theorem exec_advances {i : Instr} {s t : State} (h : exec i s = .next t) (hset : i.mnemonic ∉ setsPc) :
    Advanced i s t := by
  obtain ⟨t', hnext, hpc⟩ := exists_exec_advanced hset s
  cases hnext.symm.trans h
  exact hpc

/-- R210. -/
theorem pc_of_branch {i : Instr} {s t : State} {d : Byte} (h : exec i s = .next t) (hd : i.operand = .rel d) :
    t.pc = s.pc + 2 ∨ t.pc = s.pc + 2 + d.signExtend 16 := by
  cases i with
  | bcc | bcs | beq | bne | bmi | bpl | bvc | bvs =>
    cases hd
    rw [branch_next _ d h]
    exact (ite_eq_or_eq _ _ _).symm
  | _ => cases hd

/-! ## The canonical form of memory -/

theorem enterInterrupt_wf {s : State} (h : s.mem.wf) : (enterInterrupt s).mem.wf := by
  rw [enterInterrupt_mem]
  exact State.push_wf _ (State.pushWord_wf _ h)

/-- An instruction that writes memory writes inside the address space. -/
theorem exists_exec_wf {s : State} (h : s.mem.wf) (i : Instr) : ∃ t, exec i s = .next t ∧ t.mem.wf := by
  cases i with
  | staZp | staZpx | staAbs | staAbx | staAby | staIzx | staIzy | stxZp | stxZpy | stxAbs | styZp | styZpx | styAbs
  | aslZp | aslZpx | aslAbs | aslAbx | lsrZp | lsrZpx | lsrAbs | lsrAbx | rolZp | rolZpx | rolAbs | rolAbx
  | rorZp | rorZpx | rorAbs | rorAbx | incZp | incZpx | incAbs | incAbx | decZp | decZpx | decAbs | decAbx =>
    exact ⟨_, rfl, State.writeByte_wf _ _ h⟩
  | pha | php => exact ⟨_, rfl, State.push_wf _ h⟩
  | jsr => exact ⟨_, rfl, State.pushWord_wf _ h⟩
  | brk => exact ⟨_, rfl, enterInterrupt_wf h⟩
  | _ => exact ⟨_, rfl, h⟩

end Machine

namespace Proofs

open Machine Safety

/-- Settles O12: the instruction fetched keeps the canonical form. -/
theorem stepKeepsMemoryCanonical : Obligations.StepKeepsMemoryCanonical := by
  intro s t hs hstep
  obtain ⟨i, -, hexec⟩ := exec_of_step_next hstep
  obtain ⟨t', hnext, ht⟩ := exists_exec_wf hs i
  cases hnext.symm.trans hexec
  exact ht

/-- Settles O13: the frame of the instruction fetched holds no parameter. -/
theorem stepKeepsParameters : Obligations.StepKeepsParameters := by
  intro s t hstep
  obtain ⟨i, -, hexec⟩ := exec_of_step_next hstep
  exact (exec_changesOnly hexec).config_kept

/-- Settles O8: the instructions outside R111's list advance PC by their length, BRK by its parameter, and a branch
chooses between two addresses. -/
theorem pcAdvancesByLengthUnlessAssigned : Obligations.PcAdvancesByLengthUnlessAssigned := by
  refine fun i s t h => ⟨exec_advances h, fun hbrk => ?brk, fun d hd => pc_of_branch h hd⟩
  cases i with
  | brk => cases h; exact enterInterrupt_pc s
  | _ => cases hbrk

/-- Settles O52: the frame of each instruction lists the flags of R26. -/
theorem flagsChangeOnlyWhereListed : Obligations.FlagsChangeOnlyWhereListed := fun _ _ _ f h =>
  (exec_changesOnly h).flags_kept f

/-- Settles O53: the frame of each instruction lists the registers of R21, R22 and R31 and the cells of R59. -/
theorem registersAndMemoryChangeOnlyWhereListed : Obligations.RegistersAndMemoryChangeOnlyWhereListed := fun _ _ _ h =>
  ⟨(exec_changesOnly h).regs_kept, (exec_changesOnly h).cells_kept⟩

end Proofs

end Sys2Proof
end

section
/-! The bits B and U of P (R27): the values of P that agree but for them give every instruction the same flags to read and
the same status to push, so states that agree but for them go on to do so. -/

namespace Sys2Proof

namespace Machine

/-! ## Values of P that agree but for B and U, stated as an equality of what RTI would restore -/

section Status

variable {p q : Byte} (h : restoredStatus q = restoredStatus p)
include h

theorem getFlag_eq_of_restoredStatus_eq {f : Flag} (hb : f ≠ .b) (hu : f ≠ .u) : getFlag q f = getFlag p f := by
  simpa [getFlag_restoredStatus, hb, hu] using congrArg (getFlag · f) h

theorem restoredStatus_putFlag_congr (f : Flag) (on : Bool) :
    restoredStatus (putFlag q f on) = restoredStatus (putFlag p f on) := by
  refine eq_of_getFlag_eq fun g => ?_
  have hg := congrArg (getFlag · g) h
  simp only [getFlag_restoredStatus, getFlag_putFlag] at hg ⊢
  split
  · rfl
  · exact hg

theorem restoredStatus_putZN_congr (r : Byte) : restoredStatus (putZN q r) = restoredStatus (putZN p r) :=
  restoredStatus_putFlag_congr (restoredStatus_putFlag_congr h .z (r == 0)) .n (r.getLsbD 7)

theorem pushedStatus_eq_of_restoredStatus_eq : pushedStatus q = pushedStatus p := by
  refine eq_of_getFlag_eq fun f => ?_
  rw [getFlag_pushedStatus, getFlag_pushedStatus]
  by_cases hb : f = .b
  · simp [hb]
  by_cases hu : f = .u
  · simp [hu]
  rw [getFlag_eq_of_restoredStatus_eq h hb hu]

end Status

end Machine

namespace Safety

open Machine

/-! ## The state operations keep the relation -/

namespace AgreeExceptBU

variable {s t : State} (h : AgreeExceptBU s t)
include h

/-- An operation that neither reads nor writes P. -/
theorem of_comm {f : State → State} (hcomm : ∀ q, f (s.setP q) = (f s).setP q) (hkept : ∀ r, (f r).p = r.p) :
    AgreeExceptBU (f s) (f t) := by
  obtain ⟨ht, hp⟩ := h
  refine ⟨?_, by rwa [hkept, hkept]⟩
  calc f t = f (s.setP t.p) := congrArg f ht
    _ = (f s).setP (f t).p := by rw [hcomm, hkept]

theorem setA (v : Byte) : AgreeExceptBU (s.setA v) (t.setA v) :=
  h.of_comm (f := (·.setA v)) (fun _ => rfl) fun _ => rfl

theorem setX (v : Byte) : AgreeExceptBU (s.setX v) (t.setX v) :=
  h.of_comm (f := (·.setX v)) (fun _ => rfl) fun _ => rfl

theorem setY (v : Byte) : AgreeExceptBU (s.setY v) (t.setY v) :=
  h.of_comm (f := (·.setY v)) (fun _ => rfl) fun _ => rfl

theorem setSp (v : Byte) : AgreeExceptBU (s.setSp v) (t.setSp v) :=
  h.of_comm (f := (·.setSp v)) (fun _ => rfl) fun _ => rfl

theorem setPc (v : Word) : AgreeExceptBU (s.setPc v) (t.setPc v) :=
  h.of_comm (f := (·.setPc v)) (fun _ => rfl) fun _ => rfl

theorem writeByte (c : Word) (v : Byte) : AgreeExceptBU (s.writeByte c v) (t.writeByte c v) :=
  h.of_comm (f := (·.writeByte c v)) (fun _ => rfl) fun _ => rfl

theorem push (v : Byte) : AgreeExceptBU (s.push v) (t.push v) :=
  h.of_comm (f := (·.push v)) (fun _ => rfl) fun _ => rfl

theorem pushWord (w : Word) : AgreeExceptBU (s.pushWord w) (t.pushWord w) := (h.push (hiByte w)).push (loByte w)

theorem pulled : AgreeExceptBU s.pulled t.pulled := h.of_comm (fun _ => rfl) fun _ => rfl

theorem advance (len : Word) : AgreeExceptBU (s.advance len) (t.advance len) :=
  h.of_comm (f := (·.advance len)) (fun _ => rfl) fun _ => rfl

/-- An operation that writes P alone. -/
theorem setP {p q : Byte} (hpq : restoredStatus q = restoredStatus p) : AgreeExceptBU (s.setP p) (t.setP q) :=
  ⟨congrArg (·.setP q) h.1, hpq⟩

theorem putFlag (f : Flag) (on : Bool) : AgreeExceptBU (s.putFlag f on) (t.putFlag f on) :=
  h.setP (restoredStatus_putFlag_congr h.2 f on)

theorem setZN (r : Byte) : AgreeExceptBU (s.setZN r) (t.setZN r) := (h.putFlag .z (r == 0)).putFlag .n (r.getLsbD 7)

theorem writeLoc (l : Loc) (v : Byte) : AgreeExceptBU (s.writeLoc l v) (t.writeLoc l v) := by
  cases l with
  | acc => exact h.setA v
  | mem ea => exact h.writeByte ea v

/-- R232, R251: the status pushed has both bits set. -/
theorem pushedStatus_eq : pushedStatus t.p = pushedStatus s.p := pushedStatus_eq_of_restoredStatus_eq h.2

/-- R251. -/
theorem enterInterrupt : AgreeExceptBU (enterInterrupt s) (enterInterrupt t) := by
  have hpc : t.pc = s.pc := by rw [h.1]
  have hconfig : t.config = s.config := by rw [h.1]
  have hsaved := (h.pushWord (s.pc + 2)).push (pushedStatus s.p)
  unfold Machine.enterInterrupt
  rw [h.pushedStatus_eq, hpc, hconfig]
  split
  · exact (hsaved.putFlag .i true).setPc _
  · exact hsaved.setPc _

end AgreeExceptBU

/-- Both results are next states, which agree but for B and U. -/
def AgreeingNext (r r' : Result) : Prop := ∃ s' t', r = .next s' ∧ r' = .next t' ∧ AgreeExceptBU s' t'

/-! ## The meanings that read P -/

section Meanings

variable {s : State} {q : Byte} (h : AgreeExceptBU s (s.setP q))
include h

/-- An operation on one flag other than B and U meets the same flag in both states. -/
theorem AgreeingNext.of_flag {op : Bool → State → Result} (f : Flag) (hb : f ≠ .b) (hu : f ≠ .u)
    (hop : ∀ on, AgreeingNext (op on s) (op on (s.setP q))) :
    AgreeingNext (op (s.flag f) s) (op ((s.setP q).flag f) (s.setP q)) := by
  have hflag : (s.setP q).flag f = s.flag f := getFlag_eq_of_restoredStatus_eq h.2 hb hu
  rw [hflag]
  exact hop (s.flag f)

/-- R171, R173. -/
theorem AgreeingNext.putSum (sum : Sum8) (len : Word) :
    AgreeingNext (putSum sum len s) (putSum sum len (s.setP q)) :=
  ⟨_, _, rfl, rfl, ((((h.setA sum.r).putFlag .c sum.cout).putFlag .v sum.v).setZN sum.r).advance len⟩

theorem AgreeingNext.addWithCarry (m : Byte) (len : Word) :
    AgreeingNext (addWithCarry m len s) (addWithCarry m len (s.setP q)) :=
  .of_flag h (op := fun c => Machine.putSum (add8 s.a m c) len) .c (by decide) (by decide) fun _ => .putSum h _ len

theorem AgreeingNext.subtractWithBorrow (m : Byte) (len : Word) :
    AgreeingNext (subtractWithBorrow m len s) (subtractWithBorrow m len (s.setP q)) :=
  .of_flag h (op := fun c => Machine.putSum (sub8 s.a m c) len) .c (by decide) (by decide) fun _ => .putSum h _ len

/-- R190. -/
theorem AgreeingNext.shiftAt (f : Byte → Byte × Bool) (l : Loc) (len : Word) :
    AgreeingNext (shiftAt f l len s) (shiftAt f l len (s.setP q)) := by
  have hread : (s.setP q).readLoc l = s.readLoc l := by cases l <;> rfl
  refine ⟨_, _, rfl, rfl, ?_⟩
  rw [hread]
  exact (((h.writeLoc l _).putFlag .c _).setZN _).advance len

theorem AgreeingNext.rolAt (l : Loc) (len : Word) : AgreeingNext (rolAt l len s) (rolAt l len (s.setP q)) :=
  .of_flag h (op := fun c => Machine.shiftAt (fun v => rol8 v c) l len) .c (by decide) (by decide)
    fun _ => .shiftAt h _ l len

theorem AgreeingNext.rorAt (l : Loc) (len : Word) : AgreeingNext (rorAt l len s) (rorAt l len (s.setP q)) :=
  .of_flag h (op := fun c => Machine.shiftAt (fun v => ror8 v c) l len) .c (by decide) (by decide)
    fun _ => .shiftAt h _ l len

/-- R210: a branch whose condition is the flag `f`, or its complement. -/
theorem AgreeingNext.branch (f : Flag) (hb : f ≠ .b) (hu : f ≠ .u) (taken : Bool → Bool) (d : Byte) :
    AgreeingNext (branch (taken (s.flag f)) d s) (branch (taken ((s.setP q).flag f)) d (s.setP q)) :=
  .of_flag h (op := fun on => Machine.branch (taken on) d) f hb hu fun _ => ⟨_, _, rfl, rfl, h.setPc _⟩

/-- R232. -/
theorem AgreeingNext.php : AgreeingNext (execPhp s) (execPhp (s.setP q)) := by
  refine ⟨_, _, rfl, rfl, ?_⟩
  rw [h.pushedStatus_eq]
  exact (h.push _).advance 1

end Meanings

/-- Every instruction keeps the relation. -/
theorem exec_agreeingNext {s : State} {q : Byte} (h : AgreeExceptBU s (s.setP q)) (i : Instr) :
    AgreeingNext (exec i s) (exec i (s.setP q)) := by
  cases i with
  | ldaImm | ldaZp | ldaZpx | ldaAbs | ldaAbx | ldaAby | ldaIzx | ldaIzy
  | andImm | andZp | andZpx | andAbs | andAbx | andAby | andIzx | andIzy
  | eorImm | eorZp | eorZpx | eorAbs | eorAbx | eorAby | eorIzx | eorIzy
  | oraImm | oraZp | oraZpx | oraAbs | oraAbx | oraAby | oraIzx | oraIzy
  | txa | tya => exact ⟨_, _, rfl, rfl, ((h.setA _).setZN _).advance _⟩
  | ldxImm | ldxZp | ldxZpy | ldxAbs | ldxAby | tax | tsx | inx | dex =>
    exact ⟨_, _, rfl, rfl, ((h.setX _).setZN _).advance _⟩
  | ldyImm | ldyZp | ldyZpx | ldyAbs | ldyAbx | tay | iny | dey =>
    exact ⟨_, _, rfl, rfl, ((h.setY _).setZN _).advance _⟩
  | adcImm | adcZp | adcZpx | adcAbs | adcAbx | adcAby | adcIzx | adcIzy => exact .addWithCarry h _ _
  | sbcImm | sbcZp | sbcZpx | sbcAbs | sbcAbx | sbcAby | sbcIzx | sbcIzy => exact .subtractWithBorrow h _ _
  | cmpImm | cmpZp | cmpZpx | cmpAbs | cmpAbx | cmpAby | cmpIzx | cmpIzy
  | cpxImm | cpxZp | cpxAbs | cpyImm | cpyZp | cpyAbs =>
    exact ⟨_, _, rfl, rfl, ((h.putFlag _ _).setZN _).advance _⟩
  | bitZp | bitAbs => exact ⟨_, _, rfl, rfl, (((h.putFlag _ _).putFlag _ _).putFlag _ _).advance _⟩
  | aslAcc | aslZp | aslZpx | aslAbs | aslAbx | lsrAcc | lsrZp | lsrZpx | lsrAbs | lsrAbx =>
    exact .shiftAt h _ _ _
  | rolAcc | rolZp | rolZpx | rolAbs | rolAbx => exact .rolAt h _ _
  | rorAcc | rorZp | rorZpx | rorAbs | rorAbx => exact .rorAt h _ _
  | incZp | incZpx | incAbs | incAbx | decZp | decZpx | decAbs | decAbx =>
    exact ⟨_, _, rfl, rfl, ((h.writeByte _ _).setZN _).advance _⟩
  | staZp | staZpx | staAbs | staAbx | staAby | staIzx | staIzy | stxZp | stxZpy | stxAbs | styZp | styZpx | styAbs =>
    exact ⟨_, _, rfl, rfl, (h.writeByte _ _).advance _⟩
  | clc | sec | cli | sei | clv | cld | sed => exact ⟨_, _, rfl, rfl, (h.putFlag _ _).advance _⟩
  | bcc => exact .branch h .c (by decide) (by decide) not _
  | bcs => exact .branch h .c (by decide) (by decide) id _
  | bne => exact .branch h .z (by decide) (by decide) not _
  | beq => exact .branch h .z (by decide) (by decide) id _
  | bpl => exact .branch h .n (by decide) (by decide) not _
  | bmi => exact .branch h .n (by decide) (by decide) id _
  | bvc => exact .branch h .v (by decide) (by decide) not _
  | bvs => exact .branch h .v (by decide) (by decide) id _
  | jmpAbs | jmpInd | nop => exact ⟨_, _, rfl, rfl, h.setPc _⟩
  | pha => exact ⟨_, _, rfl, rfl, (h.push _).advance _⟩
  | php => exact .php h
  | pla => exact ⟨_, _, rfl, rfl, ((h.pulled.setA _).setZN _).advance _⟩
  | plp => exact ⟨_, _, rfl, rfl, (h.pulled.setP rfl).advance _⟩
  | txs => exact ⟨_, _, rfl, rfl, (h.setSp _).advance _⟩
  | jsr => exact ⟨_, _, rfl, rfl, (h.pushWord _).setPc _⟩
  | rts => exact ⟨_, _, rfl, rfl, h.pulled.pulled.setPc _⟩
  | brk => exact ⟨_, _, rfl, rfl, h.enterInterrupt⟩
  | rti => exact ⟨_, _, rfl, rfl, (h.pulled.pulled.pulled.setP rfl).setPc _⟩

end Safety

namespace Proofs

open Machine Safety

/-- Settles O54: two such states fetch the same instruction, whose meaning keeps their agreement, or report the same
byte. -/
theorem breakAndUnusedBitsUnobservable : Obligations.BreakAndUnusedBitsUnobservable := by
  intro s t h
  obtain ⟨q, rfl⟩ : ∃ q, t = s.setP q := ⟨t.p, h.1⟩
  have hfetch : fetchInstr (s.setP q) = fetchInstr s := rfl
  cases hi : fetchInstr s with
  | none =>
    have hreport : step (s.setP q) = step s := by
      rw [step_of_no_fetch hi, step_of_no_fetch (hfetch.trans hi)]
      rfl
    refine ⟨fun s' hnext => ?_, fun r hfault => hreport.trans hfault⟩
    cases (step_of_no_fetch hi).symm.trans hnext
  | some i =>
    obtain ⟨s', t', hs, ht, hagree⟩ := exec_agreeingNext h i
    have hstep := (step_of_fetch hi).trans hs
    refine ⟨fun u hnext => ?_, fun r hfault => ?_⟩
    · cases hstep.symm.trans hnext
      exact ⟨t', (step_of_fetch (hfetch.trans hi)).trans ht, hagree⟩
    · cases hstep.symm.trans hfault

end Proofs

end Sys2Proof
end

section
/-! The stack in use (R29 to R31): a push and the pulls that undo it, the subroutine call and return (R220, R221), the
software interrupt and its return (R251, R252), and a list of at most 256 bytes pushed and pulled. -/

namespace Sys2Proof

/-! ## Mnemonics with one form, which has no operand -/

theorem Instr.eq_of_single_form {mn : Mnemonic} {op : Byte} {m : Mode} {j : Instr} (hforms : matrixForms mn = [(op, m)])
    (hcell : matrixCell op = some (.f1 j)) {i : Instr} (h : i.mnemonic = mn) : i = j := by
  obtain ⟨f, hf, hbuilds⟩ := exists_matrixCell_builds i
  have hmem := opcode_mode_mem_matrixForms i
  rw [h, hforms, List.mem_singleton] at hmem
  rw [(Prod.mk.inj hmem).1, hcell] at hf
  cases hf
  exact hbuilds.symm

theorem Instr.exists_eq_jsr_of_mnemonic {i : Instr} (h : i.mnemonic = .JSR) : ∃ w, i = .jsr w := by
  cases i with
  | jsr w => exact ⟨w, rfl⟩
  | _ => cases h

/-- R83: a mapped byte that is no transfer's decodes by the matrix under every configuration. -/
theorem decodeWindow_of_matrixCell {op : Byte} {f : Format} (hcell : matrixCell op = some f) (hop : op ∉ transferOpcodes)
    (cfg : Config) (b1 b2 : Byte) : decodeWindow cfg op b1 b2 = some (f.assemble b1 b2) := by
  rw [decodeWindow, decodeOpcode_other cfg hop, hcell]
  rfl

namespace Safety

open Machine

theorem completes_of_single_form {mn : Mnemonic} {op : Byte} {m : Mode} {j : Instr} {effect : State → State → Prop}
    (hforms : matrixForms mn = [(op, m)]) (hcell : matrixCell op = some (.f1 j))
    (h : ∀ s, ∃ t, exec j s = .next t ∧ Advanced j s t ∧ effect s t) : Completes mn effect :=
  completes_of_eq (fun hi => Instr.eq_of_single_form hforms hcell hi) h

end Safety

namespace Machine

/-! ## Steps of SP -/

theorem sub_one_sub_one (b : Byte) : b - 1 - 1 = b - 2 := by bv_omega
theorem sub_two_sub_one (b : Byte) : b - 2 - 1 = b - 3 := by bv_omega
theorem add_one_add_one (b : Byte) : b + 1 + 1 = b + 2 := by bv_omega
theorem add_two_add_one (b : Byte) : b + 2 + 1 = b + 3 := by bv_omega

/-! ## A pull after a push -/

variable (s : State)

/-- R31: a push leaves the byte below what it pushed. -/
theorem State.readByte_push_of_ne (v : Byte) {p : Byte} (h : p ≠ s.sp) :
    (s.push v).readByte (stackAddr p) = s.readByte (stackAddr p) := by
  rw [State.readByte_push, if_neg (stackAddr_ne h)]

theorem State.readByte_push_same (v : Byte) : (s.push v).readByte (stackAddr s.sp) = v := by
  rw [State.readByte_push, if_pos rfl]

/-- A pull that undoes a push leaves the next byte to pull as it was. -/
theorem State.pullByte_pulled_push (v : Byte) : (s.push v).pulled.pullByte = s.pullByte := by
  have hne : s.sp + 1 ≠ s.sp := by bv_omega
  rw [State.pullByte, State.sp_pulled_push]
  exact s.readByte_push_of_ne v hne

theorem State.pullWord_pulled_push (v : Byte) : (s.push v).pulled.pullWord = s.pullWord := by
  have hne : s.sp + 1 + 1 ≠ s.sp := by bv_omega
  have hhi : (s.push v).pulled.pulled.pullByte = s.pulled.pullByte := by
    rw [State.pullByte, State.pulled_sp, State.sp_pulled_push]
    exact s.readByte_push_of_ne v hne
  rw [State.pullWord, hhi, State.pullByte_pulled_push, State.pullWord]

theorem State.pullWord_setPc (v : Word) : (s.setPc v).pullWord = s.pullWord := rfl

/-- R220, R221: the two pulls return the word that was pushed. -/
theorem State.pullWord_pushWord (w : Word) : (s.pushWord w).pullWord = w := by
  rw [State.pullWord, State.pushWord, State.pullByte_pulled_push, State.pullByte_push, State.pullByte_push,
    wordOf_hiByte_loByte]

theorem State.readByte_pushWord_hi (w : Word) : (s.pushWord w).readByte (stackAddr s.sp) = hiByte w := by
  have hne : s.sp ≠ s.sp - 1 := by bv_omega
  rw [State.pushWord, State.readByte_push_of_ne _ _ hne, State.readByte_push_same]

theorem State.readByte_pushWord_lo (w : Word) : (s.pushWord w).readByte (stackAddr (s.sp - 1)) = loByte w :=
  State.readByte_push_same _ _

/-! ## The software interrupt's frame -/

/-- R269: what BRK leaves on the stack. -/
def State.pushFrame : State := (s.pushWord (s.pc + 2)).push (pushedStatus s.p)

theorem enterInterrupt_readByte (c : Word) : (enterInterrupt s).readByte c = s.pushFrame.readByte c :=
  congrArg (·.read c.toNat) (enterInterrupt_mem s)

theorem enterInterrupt_pullByte : (enterInterrupt s).pullByte = pushedStatus s.p := by
  rw [State.pullByte, enterInterrupt_readByte, enterInterrupt_sp]
  exact State.pullByte_push _ _

theorem enterInterrupt_pulled_pullWord : (enterInterrupt s).pulled.pullWord = s.pc + 2 := by
  have hpulled : (enterInterrupt s).pulled.pullWord = s.pushFrame.pulled.pullWord := by
    simp only [State.pullWord, State.pullByte, State.pulled_sp, State.pulled_readByte, enterInterrupt_readByte,
      enterInterrupt_sp]
    rfl
  rw [hpulled, State.pushFrame, State.pullWord_pulled_push, State.pullWord_pushWord]

theorem State.pushFrame_readByte_hi : s.pushFrame.readByte (stackAddr s.sp) = hiByte (s.pc + 2) := by
  have hne : s.sp ≠ s.sp - 1 - 1 := by bv_omega
  rw [State.pushFrame, State.readByte_push_of_ne _ _ hne, State.readByte_pushWord_hi]

theorem State.pushFrame_readByte_lo : s.pushFrame.readByte (stackAddr (s.sp - 1)) = loByte (s.pc + 2) := by
  have hne : s.sp - 1 ≠ s.sp - 1 - 1 := by bv_omega
  rw [State.pushFrame, State.readByte_push_of_ne _ _ hne, State.readByte_pushWord_lo]

theorem State.pushFrame_readByte_status : s.pushFrame.readByte (stackAddr (s.sp - 2)) = pushedStatus s.p := by
  rw [← sub_one_sub_one]
  exact State.readByte_push_same _ _

/-- R251, R252: bits 4 and 5, which BRK sets in the byte it pushes, RTI clears. -/
theorem restoredStatus_pushedStatus (p : Byte) : restoredStatus (pushedStatus p) = restoredStatus p :=
  eq_of_getFlag_eq fun f => by cases f <;> simp [getFlag_restoredStatus, getFlag_pushedStatus]

/-! ## A list of bytes on the stack -/

/-- The bytes of the list are the ones that pulls will return, the first one first. -/
def StackHolds (ws : List Byte) : Prop :=
  ∀ k (hk : k < ws.length), s.readByte (stackAddr (s.sp + BitVec.ofNat 8 (k + 1))) = ws[k]

theorem stackHolds_nil : StackHolds s [] := fun _ hk => absurd hk (Nat.not_lt_zero _)

variable {s}

/-- A push puts its byte on top, as long as the stack page is not full. -/
theorem StackHolds.push {ws : List Byte} (h : StackHolds s ws) (hlen : ws.length < 256) (v : Byte) :
    StackHolds (s.push v) (v :: ws) := by
  intro k hk
  have hsp : s.sp - 1 + BitVec.ofNat 8 (k + 1) = s.sp + BitVec.ofNat 8 k := by bv_omega
  rw [State.push_sp, hsp]
  cases k with
  | zero => simp [State.readByte_push_same]
  | succ k =>
    have hk : k < ws.length := Nat.lt_of_succ_lt_succ hk
    have hne : s.sp + BitVec.ofNat 8 (k + 1) ≠ s.sp := by bv_omega
    rw [s.readByte_push_of_ne v hne]
    exact h k hk

theorem StackHolds.pullByte {w : Byte} {ws : List Byte} (h : StackHolds s (w :: ws)) : s.pullByte = w :=
  h 0 (Nat.zero_lt_succ _)

theorem StackHolds.pulled {w : Byte} {ws : List Byte} (h : StackHolds s (w :: ws)) : StackHolds s.pulled ws := by
  intro k hk
  have hsp : s.sp + 1 + BitVec.ofNat 8 (k + 1) = s.sp + BitVec.ofNat 8 (k + 1 + 1) := by bv_omega
  rw [State.pulled_sp, hsp]
  exact h (k + 1) (Nat.succ_lt_succ hk)

end Machine

namespace Safety

open Machine

theorem phaSequence_holds (vs : List Byte) : ∀ {s : State} {ws : List Byte}, StackHolds s ws →
    ws.length + vs.length ≤ 256 →
    ∃ t, phaSequence s vs = some t ∧ t.sp = s.sp - BitVec.ofNat 8 vs.length ∧ StackHolds t (vs.reverse ++ ws) := by
  induction vs with
  | nil => exact fun h _ => ⟨_, rfl, (BitVec.sub_zero _).symm, h⟩
  | cons v vs ih =>
    intro s ws h hlen
    rw [List.length_cons] at hlen
    have hpush : StackHolds (((s.setA v).push v).advance 1) (v :: ws) := h.push (by omega) v
    obtain ⟨t, hpha, hsp, ht⟩ := ih hpush (by rw [List.length_cons]; omega)
    refine ⟨t, hpha, ?_, by rwa [List.reverse_cons, List.append_assoc]⟩
    rw [hsp, State.advance_sp, State.push_sp, State.setA_sp, List.length_cons]
    bv_omega

theorem plaSequence_of_holds (ws : List Byte) : ∀ {t : State}, StackHolds t ws →
    ∃ u, plaSequence t ws.length = some (ws, u) ∧ u.sp = t.sp + BitVec.ofNat 8 ws.length := by
  induction ws with
  | nil => exact fun _ => ⟨_, rfl, (BitVec.add_zero _).symm⟩
  | cons w ws ih =>
    intro t h
    have hpulled : StackHolds (((t.pulled.setA t.pullByte).setZN t.pullByte).advance 1) ws := h.pulled
    obtain ⟨u, hpla, hsp⟩ := ih hpulled
    refine ⟨u, ?_, ?_⟩
    · have hstep : plaSequence t (ws.length + 1) = (plaSequence (((t.pulled.setA t.pullByte).setZN t.pullByte).advance 1)
        ws.length).map (fun out => (t.pullByte :: out.1, out.2)) := rfl
      rw [List.length_cons, hstep, hpla, h.pullByte]
      rfl
    · rw [hsp, State.advance_sp, State.setZN_sp, State.setA_sp, State.pulled_sp, List.length_cons]
      bv_omega

end Safety

namespace Proofs

open Machine Safety

/-- Settles O16: the bytes pushed stand on the stack in reverse order, since at most 256 of them do not meet in the page,
and the pulls return what stands on it. -/
theorem stackDisciplineUpTo256 : Obligations.StackDisciplineUpTo256 := by
  intro s vs hlen
  obtain ⟨t, hpha, hsp, hholds⟩ := phaSequence_holds vs (stackHolds_nil s) (by simpa using hlen)
  rw [List.append_nil] at hholds
  obtain ⟨u, hpla, husp⟩ := plaSequence_of_holds vs.reverse hholds
  rw [List.length_reverse] at hpla husp
  refine ⟨t, u, hpha, hpla, ?_⟩
  rw [husp, hsp, BitVec.sub_add_cancel]

/-- Settles O15: a push and a pull each with its frame, and a pull after a push. -/
theorem pushAndPullUseTheStackPage : Obligations.PushAndPullUseTheStackPage := by
  intro s v
  refine ⟨stackAddr_toNat s.sp, s.readByte_push_same v, ?push, .push s v, BitVec.toNat_add s.sp 1, rfl, .pulled s,
    s.pullByte_push v, s.sp_pulled_push v⟩
  case push => exact dec8_toNat s.sp

/-- Settles O36: the two pulls of RTS return the word that JSR pushed. -/
theorem callThenReturnComesBack : Obligations.CallThenReturnComesBack := by
  intro s w
  have hpull : ((s.pushWord (s.pc + 2)).setPc (eaAbs w)).pullWord + 1 = s.pc + 3 := by
    rw [State.pullWord_setPc, State.pullWord_pushWord, BitVec.add_assoc]
    rfl
  refine ⟨_, _, rfl, rfl, hpull, ?_⟩
  simp

/-- Settles O45: RTI pulls the frame that BRK pushed. -/
theorem brkThenRtiResumes : Obligations.BrkThenRtiResumes := by
  intro s
  have hp : restoredStatus (enterInterrupt s).pullByte = restoredStatus s.p := by
    rw [enterInterrupt_pullByte, restoredStatus_pushedStatus]
  have hi : getFlag (restoredStatus s.p) .i = s.flag .i := by
    rw [getFlag_restoredStatus, State.flag_eq_getFlag]
    simp
  refine ⟨_, _, rfl, rfl, ?_⟩
  rw [returnFromInterrupt_eq, enterInterrupt_pulled_pullWord, hp]
  refine ⟨rfl, ?_, rfl, hi, ?_⟩ <;> simp

/-- Settles O46: PLP pulls the status that PHP pushed. -/
theorem phpThenPlpSetsBits4And5 : Obligations.PhpThenPlpSetsBits4And5 := by
  intro s
  have hp : ((s.push (pushedStatus s.p)).advance 1).pullByte = s.p ||| 0x30 := s.pullByte_push (pushedStatus s.p)
  have hpc : s.pc + 1 + 1 = s.pc + 2 := BitVec.add_assoc s.pc 1 1
  refine ⟨_, _, rfl, rfl, hp, s.sp_pulled_push (pushedStatus s.p), hpc, ?_⟩
  simp

/-- Settles O38: the forms are those of the matrix, and each is a push and the advance of PC. -/
theorem phaAndPhpPushOneByte : Obligations.PhaAndPhpPushOneByte := by
  refine ⟨formsAre_of_perm_matrixForms (by decide) (by decide), formsAre_of_perm_matrixForms (by decide) (by decide),
    completes_of_single_form (op := 0x48) (m := .IMP) (by decide) rfl fun s => ?pha,
    completes_of_single_form (op := 0x08) (m := .IMP) (by decide) rfl fun s => ?php⟩
  case pha => exact ⟨_, rfl, rfl, s.readByte_push_same s.a, rfl, exec_changesOnly (i := .pha) rfl⟩
  case php => exact ⟨_, rfl, rfl, s.readByte_push_same (pushedStatus s.p), rfl, exec_changesOnly (i := .php) rfl⟩

/-- Settles O39: the forms are those of the matrix, and each is a pull, the write of A or P, and the advance of PC. -/
theorem plaAndPlpPullOneByte : Obligations.PlaAndPlpPullOneByte := by
  refine ⟨formsAre_of_perm_matrixForms (by decide) (by decide), formsAre_of_perm_matrixForms (by decide) (by decide),
    completes_of_single_form (op := 0x68) (m := .IMP) (by decide) rfl fun s => ?pla,
    completes_of_single_form (op := 0x28) (m := .IMP) (by decide) rfl fun s => ?plp⟩
  case pla => exact ⟨_, rfl, rfl, rfl, .of_setZN rfl, rfl, exec_changesOnly (i := .pla) rfl⟩
  case plp => exact ⟨_, rfl, rfl, rfl, rfl, exec_changesOnly (i := .plp) rfl⟩

/-- Settles O40: the forms are those of the matrix, and each is a copy between X and SP and the advance of PC. -/
theorem stackPointerTransfers : Obligations.StackPointerTransfers := by
  refine ⟨formsAre_of_perm_matrixForms (by decide) (by decide), formsAre_of_perm_matrixForms (by decide) (by decide),
    completes_of_single_form (op := 0x9A) (m := .IMP) (by decide) rfl fun s => ?txs,
    completes_of_single_form (op := 0xBA) (m := .IMP) (by decide) rfl fun s => ?tsx⟩
  case txs => exact ⟨_, rfl, rfl, rfl, exec_changesOnly (i := .txs) rfl⟩
  case tsx => exact ⟨_, rfl, rfl, rfl, .of_setZN rfl, exec_changesOnly (i := .tsx) rfl⟩

/-- Settles O34: the one form is that of the matrix, and JSR pushes PC + 2 as a word and goes to its operand. -/
theorem jsrPushesLastByteAddress : Obligations.JsrPushesLastByteAddress := by
  refine ⟨formsAre_of_perm_matrixForms (by decide) (by decide), fun i s hi => ?_⟩
  obtain ⟨w, rfl⟩ := Instr.exists_eq_jsr_of_mnemonic hi
  exact ⟨w, _, rfl, rfl, rfl, sub_one_sub_one s.sp, s.readByte_pushWord_hi (s.pc + 2), s.readByte_pushWord_lo (s.pc + 2),
    exec_changesOnly (i := .jsr w) rfl⟩

/-- Settles O35: the one form is that of the matrix, and RTS pulls a word and goes to the address after it. -/
theorem rtsPullsAddressPlusOne : Obligations.RtsPullsAddressPlusOne := by
  refine ⟨formsAre_of_perm_matrixForms (by decide) (by decide), fun i s hi => ?_⟩
  obtain rfl : i = .rts := Instr.eq_of_single_form (op := 0x60) (m := .IMP) (by decide) rfl hi
  refine ⟨_, rfl, ?pc, add_one_add_one s.sp, exec_changesOnly (i := .rts) rfl⟩
  case pc => rw [← add_one_add_one]; rfl

/-- Settles O37: the fetch has formed the operand from the two bytes after 0x20 before the pushes. -/
theorem jsrTargetReadBeforePushes : Obligations.JsrTargetReadBeforePushes := by
  intro s hop
  have hfetch : fetchInstr s = some (.jsr (wordOf (s.readByte (s.pc + 2)) (s.readByte (s.pc + 1)))) := by
    rw [fetchInstr, hop]
    exact decodeWindow_of_matrixCell (f := .f3 .jsr) rfl (by decide) _ _ _
  exact ⟨_, step_of_fetch hfetch, wordOf_toNat _ _⟩

/-- Settles O43: the one form is that of the matrix, and BRK leaves its frame on the stack, sets I as its parameter says
and goes on where its parameter says. -/
theorem brkPushesFrameAndContinues : Obligations.BrkPushesFrameAndContinues := by
  refine ⟨formsAre_of_perm_matrixForms (by decide) (by decide), fun i s hi => ?_⟩
  obtain rfl : i = .brk := Instr.eq_of_single_form (op := 0x00) (m := .IMP) (by decide) rfl hi
  refine ⟨enterInterrupt s, rfl, ?hi, ?lo, ?status, ?sp, ?flag, fun hone => ?one, fun htwo => ?two,
    exec_changesOnly (i := .brk) rfl⟩
  case hi => rw [enterInterrupt_readByte, State.pushFrame_readByte_hi]
  case lo => rw [enterInterrupt_readByte, State.pushFrame_readByte_lo]
  case status => rw [enterInterrupt_readByte, State.pushFrame_readByte_status]; rfl
  case sp => rw [enterInterrupt_sp, sub_one_sub_one s.sp, sub_two_sub_one]
  case flag =>
    rw [State.flag_eq_getFlag, enterInterrupt_p]
    cases s.config.brkSetsI with
    | false => rfl
    | true => simp [getFlag_putFlag]
  case one => rw [enterInterrupt_pc, hone]; rfl
  case two => rw [enterInterrupt_pc, htwo]; rfl

/-- Settles O44: the one form is that of the matrix, and RTI pulls the status, then the word it goes to. -/
theorem rtiRestoresStatusAndPc : Obligations.RtiRestoresStatusAndPc := by
  refine ⟨formsAre_of_perm_matrixForms (by decide) (by decide), fun i s hi => ?_⟩
  obtain rfl : i = .rti := Instr.eq_of_single_form (op := 0x40) (m := .IMP) (by decide) rfl hi
  refine ⟨_, rfl, rfl, ?pc, ?sp, exec_changesOnly (i := .rti) rfl⟩
  case pc => rw [← add_two_add_one, ← add_one_add_one]; rfl
  case sp => rw [← add_two_add_one, ← add_one_add_one]; rfl

end Proofs

end Sys2Proof
end

section
/-! The rest of the data instructions: a store read back (R151, R154), SBC as an exact difference (R173) and the flag D
(R172), the compares (R178 to R180), the transfers (R157 to R160), the branches (R210). -/

namespace Sys2Proof

/-! ## Operands -/

/-- No operand byte depends on P. -/
theorem Operand.value_setP (o : Operand) (s : Machine.State) (p : Byte) : o.value (s.setP p) = o.value s := by
  cases o <;> rfl

/-- The byte of an operand that is not immediate is the byte at its location. -/
theorem Operand.value_eq_readLoc {o : Operand} {s : Machine.State} {m : Byte} {l : Machine.Loc} (himm : o.mode ≠ .IMM)
    (hvalue : o.value s = some m) (hresolve : o.resolve s = some l) : m = s.readLoc l := by
  cases o with
  | imm v => exact absurd rfl himm
  | imp | ind | rel => cases hvalue
  | acc | zp | zpx | zpy | abs | abx | aby | izx | izy =>
    cases hresolve
    exact (Option.some.inj hvalue).symm

namespace Machine

/-! ## SUB8 is the exact difference (R116) -/

theorem xor_ff_toNat (m : Byte) : (m ^^^ 0xFF).toNat = 255 - m.toNat := by
  have hnot : m ^^^ 0xFF = ~~~m := BitVec.xor_allOnes
  rw [hnot, BitVec.toNat_not]

theorem xor_ff_toInt (m : Byte) : (m ^^^ 0xFF).toInt = -1 - m.toInt := by
  have hm := m.isLt
  rw [BitVec.toInt_eq_toNat_cond, BitVec.toInt_eq_toNat_cond, xor_ff_toNat]
  omega

/-- R173: the borrow is the complement of the carry. -/
theorem toNat_add_borrow (c : Bool) : c.toNat + (1 - c.toNat) = 1 := by cases c <;> rfl

theorem sub8_r_toNat (a m : Byte) (c : Bool) :
    ((sub8 a m c).r.toNat : Int) = ((a.toNat : Int) - (m.toNat : Int) - ((1 - c.toNat : Nat) : Int)) % 256 := by
  have hm := m.isLt
  have hc := toNat_add_borrow c
  rw [sub8, add8_r_toNat, xor_ff_toNat]
  omega

theorem sub8_cout_iff (a m : Byte) (c : Bool) : (sub8 a m c).cout = true ↔ m.toNat + (1 - c.toNat) ≤ a.toNat := by
  have hm := m.isLt
  have hc := toNat_add_borrow c
  rw [sub8, add8_cout_iff, xor_ff_toNat]
  omega

theorem sub8_v_iff (a m : Byte) (c : Bool) :
    (sub8 a m c).v = true ↔ a.toInt - m.toInt - ((1 - c.toNat : Nat) : Int) < -128 ∨
      127 < a.toInt - m.toInt - ((1 - c.toNat : Nat) : Int) := by
  have hc := toNat_add_borrow c
  rw [sub8, add8_v_iff, xor_ff_toInt]
  omega

/-! ## The flag D is not read (R172) -/

theorem putFlag_comm (p : Byte) {f g : Flag} (hfg : f ≠ g) (x y : Bool) :
    putFlag (putFlag p f x) g y = putFlag (putFlag p g y) f x := by
  refine eq_of_getFlag_eq fun k => ?_
  simp only [getFlag_putFlag]
  split_ifs with hg hf
  · exact absurd (hf.symm.trans hg) hfg
  all_goals rfl

theorem putZN_putFlag_d (p r : Byte) (on : Bool) : putZN (putFlag p .d on) r = putFlag (putZN p r) .d on := by
  rw [putZN, putFlag_comm p (by decide), putFlag_comm _ (by decide), putZN]

/-- A sum ends with D as it began with it, and with everything else the same. -/
theorem putSum_putFlag_d (sum : Sum8) (len : Word) (s : State) (on : Bool) :
    ∃ t, putSum sum len s = .next t ∧ putSum sum len (s.putFlag .d on) = .next (t.putFlag .d on) := by
  have hp : putZN (putFlag (putFlag (putFlag s.p .d on) .c sum.cout) .v sum.v) sum.r =
      putFlag (putZN (putFlag (putFlag s.p .c sum.cout) .v sum.v) sum.r) .d on := by
    rw [putFlag_comm s.p (by decide), putFlag_comm _ (by decide), putZN_putFlag_d]
  exact ⟨_, rfl, congrArg (fun p => (.next { s with a := sum.r, p := p, pc := s.pc + len } : Result)) hp⟩

/-- ADC and SBC are a sum that depends on the flags by C alone. -/
theorem carrySum_putFlag_d (sum : Bool → Sum8) (len : Word) (s : State) (on : Bool) :
    ∃ t, putSum (sum (s.flag .c)) len s = .next t ∧
      putSum (sum ((s.putFlag .d on).flag .c)) len (s.putFlag .d on) = .next (t.putFlag .d on) := by
  rw [State.flag_putFlag, if_neg (by decide)]
  exact putSum_putFlag_d _ len s on

/-- An instruction whose meaning on its operand byte does not read D does not read D. -/
theorem exec_putFlag_d_of {i : Instr} {meaning : Byte → Word → State → Result} {len : Word}
    (hexec : ∀ s, ∃ m, i.operand.value s = some m ∧ exec i s = meaning m len s)
    (hmeaning : ∀ m s on, ∃ t, meaning m len s = .next t ∧ meaning m len (s.putFlag .d on) = .next (t.putFlag .d on))
    (s : State) (on : Bool) : ∃ t, exec i s = .next t ∧ exec i (s.putFlag .d on) = .next (t.putFlag .d on) := by
  obtain ⟨m, hvalue, hs⟩ := hexec s
  obtain ⟨m', hvalue', hs'⟩ := hexec (s.putFlag .d on)
  obtain rfl : m = m' := Option.some.inj (hvalue.symm.trans ((i.operand.value_setP s _).symm.trans hvalue'))
  obtain ⟨t, ht, ht'⟩ := hmeaning m s on
  exact ⟨t, hs.trans ht, hs'.trans ht'⟩

/-! ## The meanings -/

section Meanings

variable {i : Instr} (s : State)

/-- R173. -/
theorem exec_eq_subtractWithBorrow (h : i.mnemonic = .SBC) :
    ∃ m, i.operand.value s = some m ∧ exec i s = subtractWithBorrow m (BitVec.ofNat 16 i.length) s := by
  cases i with
  | sbcImm | sbcZp | sbcZpx | sbcAbs | sbcAbx | sbcAby | sbcIzx | sbcIzy => exact ⟨_, rfl, rfl⟩
  | _ => cases h

/-- R178. -/
theorem exec_eq_compareWith_a (h : i.mnemonic = .CMP) :
    ∃ m, i.operand.value s = some m ∧ exec i s = compareWith s.a m (BitVec.ofNat 16 i.length) s := by
  cases i with
  | cmpImm | cmpZp | cmpZpx | cmpAbs | cmpAbx | cmpAby | cmpIzx | cmpIzy => exact ⟨_, rfl, rfl⟩
  | _ => cases h

/-- R179. -/
theorem exec_eq_compareWith_x (h : i.mnemonic = .CPX) :
    ∃ m, i.operand.value s = some m ∧ exec i s = compareWith s.x m (BitVec.ofNat 16 i.length) s := by
  cases i with
  | cpxImm | cpxZp | cpxAbs => exact ⟨_, rfl, rfl⟩
  | _ => cases h

/-- R180. -/
theorem exec_eq_compareWith_y (h : i.mnemonic = .CPY) :
    ∃ m, i.operand.value s = some m ∧ exec i s = compareWith s.y m (BitVec.ofNat 16 i.length) s := by
  cases i with
  | cpyImm | cpyZp | cpyAbs => exact ⟨_, rfl, rfl⟩
  | _ => cases h

end Meanings

/-- R210's table: the flag that a branch tests, and the value of it on which the branch is taken. -/
def branchCondition : Mnemonic → Option (Flag × Bool)
  | .BPL => some (.n, false)
  | .BMI => some (.n, true)
  | .BVC => some (.v, false)
  | .BVS => some (.v, true)
  | .BCC => some (.c, false)
  | .BCS => some (.c, true)
  | .BNE => some (.z, false)
  | .BEQ => some (.z, true)
  | _ => none

/-- R211 to R218. -/
theorem exec_eq_branch_of_condition {i : Instr} {f : Flag} {on : Bool} (h : branchCondition i.mnemonic = some (f, on))
    (s : State) : ∃ d, i.operand = .rel d ∧ exec i s = branch (bif on then s.flag f else !s.flag f) d s := by
  cases i with
  | bpl d | bmi d | bvc d | bvs d | bcc d | bcs d | bne d | beq d => cases h; exact ⟨d, rfl, rfl⟩
  | _ => cases h

end Machine

namespace Safety

open Machine

/-- R178 to R180: what a compare of `reg` with `m` leaves. -/
theorem compareWith_effect (reg m : Byte) (len : Word) (s : State) :
    ∃ t, compareWith reg m len s = .next t ∧ t.pc = s.pc + len ∧ (t.flag .c = true ↔ m.toNat ≤ reg.toNat) ∧
      (t.flag .z = true ↔ reg = m) ∧ t.flag .n = (reg - m).getLsbD 7 ∧ ChangesOnly [] [.c, .z, .n] [] s t := by
  have hframe := ((ChangesOnly.putFlag s .c (cmp8 reg m).2).trans (.setZN _ (cmp8 reg m).1)).trans (.advance _ len)
  refine ⟨_, rfl, rfl, ?c, ?z, ?n, hframe⟩
  case c => simp [cmp8]
  case z => simpa [cmp8] using sub_eq_zero (a := reg) (b := m)
  case n => simp [cmp8]

/-- A mnemonic whose every form compares the register `reg` with its operand byte. -/
theorem readsOperand_of_compareWith {mn : Mnemonic} {reg : State → Byte}
    (hexec : ∀ i s, i.mnemonic = mn →
      ∃ m, i.operand.value s = some m ∧ exec i s = compareWith (reg s) m (BitVec.ofNat 16 i.length) s) :
    ReadsOperand mn fun s m t => (t.flag .c = true ↔ m.toNat ≤ (reg s).toNat) ∧ (t.flag .z = true ↔ reg s = m) ∧
      t.flag .n = (reg s - m).getLsbD 7 ∧ ChangesOnly [] [.c, .z, .n] [] s t :=
  readsOperand_of (meaning := fun m len s => compareWith (reg s) m len s) hexec fun s m len =>
    compareWith_effect (reg s) m len s

/-- A mnemonic of R210's table is taken on the value of its flag. -/
theorem branches_of_condition {mn : Mnemonic} (f : Flag) (on : Bool) (h : branchCondition mn = some (f, on)) :
    Branches mn fun s => bif on then s.flag f else !s.flag f :=
  branches_of_branch fun _ s hi => exec_eq_branch_of_condition (hi ▸ h) s

end Safety

/-! ## The transfers (R88) -/

theorem decodeWindow_transfer {op : Byte} {i : Instr} (hop : op ∈ transferOpcodes) (hcell : matrixCell op = some (.f1 i))
    (cfg : Config) (b1 b2 : Byte) : decodeWindow cfg op b1 b2 = if cfg.xferPresent then some i else none := by
  rw [decodeWindow, decodeOpcode]
  cases cfg.xferPresent with
  | false => simp [hop]
  | true => simp [hcell, Format.assemble]

namespace Proofs

open Machine Safety

/-- Settles O19: the four bytes are the transfers' cells of the matrix, and each transfer is a register write, Z and N, and
the advance of PC. -/
theorem transfersCopyAndSetZN : Obligations.TransfersCopyAndSetZN := by
  refine ⟨fun cfg b1 b2 => ⟨?_, ?_, ?_, ?_⟩,
    completes_of_single_form (op := 0xAA) (m := .IMP) (by decide) rfl fun s => ?tax,
    completes_of_single_form (op := 0xA8) (m := .IMP) (by decide) rfl fun s => ?tay,
    completes_of_single_form (op := 0x8A) (m := .IMP) (by decide) rfl fun s => ?txa,
    completes_of_single_form (op := 0x98) (m := .IMP) (by decide) rfl fun s => ?tya⟩
  case tax => exact ⟨_, rfl, rfl, rfl, .of_setZN rfl, exec_changesOnly (i := .tax) rfl⟩
  case tay => exact ⟨_, rfl, rfl, rfl, .of_setZN rfl, exec_changesOnly (i := .tay) rfl⟩
  case txa => exact ⟨_, rfl, rfl, rfl, .of_setZN rfl, exec_changesOnly (i := .txa) rfl⟩
  case tya => exact ⟨_, rfl, rfl, rfl, .of_setZN rfl, exec_changesOnly (i := .tya) rfl⟩
  all_goals exact decodeWindow_transfer (by decide) rfl cfg b1 b2

/-- Settles O20: the LDA reads the cell the STA wrote. -/
theorem storeThenLoadGivesTheValue : Obligations.StoreThenLoadGivesTheValue := by
  intro i j s ea hi hresolve hj himm
  obtain ⟨ea', hresolve', hstore⟩ := exec_eq_storeA s hi
  cases hresolve.symm.trans hresolve'
  refine ⟨_, hstore, fun hload => ?_⟩
  obtain ⟨m, hvalue, hexec⟩ := exec_eq_loadA ((s.writeByte ea s.a).advance (BitVec.ofNat 16 i.length)) hj
  have hm : m = s.a := (Operand.value_eq_readLoc himm hvalue hload).trans (s.readByte_writeByte_same ea s.a)
  exact ⟨_, hexec, hm⟩

/-- Settles O22: the forms are those of the matrix, and what `putSum` leaves of SUB8's outputs is the exact difference. -/
theorem subtractWithBorrowIsExactDifference : Obligations.SubtractWithBorrowIsExactDifference := by
  refine ⟨formsAre_of_perm_matrixForms (by decide) (by decide),
    readsOperand_of (fun _ s h => exec_eq_subtractWithBorrow s h) fun s m len => ?_⟩
  obtain ⟨t, hnext, hpc, ha, hc, hv, hzn, hframe⟩ := putSum_effect (sub8 s.a m (s.flag .c)) len s
  exact ⟨t, hnext, hpc, ha ▸ sub8_r_toNat _ _ _, hc ▸ sub8_cout_iff _ _ _, hv ▸ sub8_v_iff _ _ _, ha ▸ hzn, hframe⟩

/-- Settles O23: the sum of ADC and SBC depends on the flags by C alone, and D is none of the flags it ends with. -/
theorem decimalFlagDoesNotChangeArithmetic : Obligations.DecimalFlagDoesNotChangeArithmetic := by
  rintro i s on (hadc | hsbc)
  · exact exec_putFlag_d_of (fun s => exec_eq_addWithCarry s hadc)
      (fun m s => carrySum_putFlag_d (add8 s.a m) _ s) s on
  · exact exec_putFlag_d_of (fun s => exec_eq_subtractWithBorrow s hsbc)
      (fun m s => carrySum_putFlag_d (sub8 s.a m) _ s) s on

/-- Settles O26: the forms are those of the matrix, and every form is `compareWith` of the mnemonic's register. -/
theorem comparesSetFlagsOfDifference : Obligations.ComparesSetFlagsOfDifference :=
  ⟨formsAre_of_perm_matrixForms (by decide) (by decide), formsAre_of_perm_matrixForms (by decide) (by decide),
    formsAre_of_perm_matrixForms (by decide) (by decide),
    readsOperand_of_compareWith fun _ s h => exec_eq_compareWith_a s h,
    readsOperand_of_compareWith fun _ s h => exec_eq_compareWith_x s h,
    readsOperand_of_compareWith fun _ s h => exec_eq_compareWith_y s h⟩

/-- Settles O31: the forms are those of the matrix, and the flag and value of each branch are those of R210's table. -/
theorem branchesTestOneFlag : Obligations.BranchesTestOneFlag := by
  refine ⟨?bpl, ?bmi, ?bvc, ?bvs, ?bcc, ?bcs, ?bne, ?beq,
    branches_of_condition .n false rfl, branches_of_condition .n true rfl,
    branches_of_condition .v false rfl, branches_of_condition .v true rfl,
    branches_of_condition .c false rfl, branches_of_condition .c true rfl,
    branches_of_condition .z false rfl, branches_of_condition .z true rfl⟩
  all_goals exact formsAre_of_perm_matrixForms (by decide) (by decide)

end Proofs

end Sys2Proof
end

section
/-! The indirect modes (R135 to R137), and the host's operations: construction, `reset()` and `dump` (R275, R290, R291). -/

namespace Sys2Proof

namespace Machine

/-! ## Pointers -/

/-- R55: the pointer whose two bytes stand at the addresses of two numbers. -/
theorem readPointer_ofNat (s : State) {lo hi : Word} {m n : Nat} (hlo : lo = BitVec.ofNat 16 m)
    (hhi : hi = BitVec.ofNat 16 n) :
    s.readPointer lo hi = wordOf (s.readByte (BitVec.ofNat 16 n)) (s.readByte (BitVec.ofNat 16 m)) := by
  rw [hlo, hhi]
  rfl

/-- R136, R137: after 0x00FF comes 0x0000 or 0x0100. -/
theorem zext16_next (p : Byte) (wrap : Bool) :
    (if wrap then zext16 (p + 1) else zext16 p + 1) =
      BitVec.ofNat 16 (if wrap then (p.toNat + 1) % 256 else p.toNat + 1) := by
  cases wrap with
  | false => rw [zext16_eq_ofNat p]; exact (BitVec.ofNat_add p.toNat 1).symm
  | true => exact zext16_add_eq_ofNat p 1

theorem hiByte_toNat (w : Word) : (hiByte w).toNat = w.toNat / 256 := by
  have hw := w.isLt
  rw [hiByte, BitVec.extractLsb'_toNat, Nat.shiftRight_eq_div_pow]
  omega

theorem loByte_toNat (w : Word) : (loByte w).toNat = w.toNat % 256 := by
  rw [loByte, BitVec.extractLsb'_toNat, Nat.shiftRight_zero]

/-- R135: after the last byte of a page comes its first byte or that of the next page. -/
theorem indirect_next (w : Word) (wrap : Bool) :
    (if wrap then wordOf (hiByte w) (loByte w + 1) else w + 1) =
      BitVec.ofNat 16 (if wrap then w.toNat / 256 * 256 + (w.toNat + 1) % 256 else w.toNat + 1) := by
  cases wrap with
  | false => exact BitVec.eq_of_toNat_eq (by simp)
  | true =>
    have hw := w.isLt
    have hnext : (loByte w + 1).toNat = (w.toNat % 256 + 1) % 256 := by rw [← loByte_toNat]; exact inc8_toNat (loByte w)
    refine BitVec.eq_of_toNat_eq ?_
    rw [if_pos rfl, if_pos rfl, wordOf_toNat, hiByte_toNat, hnext, BitVec.toNat_ofNat]
    omega

theorem zeroPagePointer_eq (s : State) {p : Byte} {n : Nat} (hp : p.toNat = n) :
    zeroPagePointer p s = wordOf
      (s.readByte (BitVec.ofNat 16 (if s.config.zpPtrWrap then (n + 1) % 256 else n + 1)))
      (s.readByte (BitVec.ofNat 16 n)) := by
  subst hp
  exact readPointer_ofNat s (zext16_eq_ofNat p) (zext16_next p _)

end Machine

namespace Instr

theorem eq_jmpInd_of_mode_ind {i : Instr} (h : i.mode = .IND) : ∃ w, i = .jmpInd w := by
  cases i with
  | jmpInd w => exact ⟨w, rfl⟩
  | _ => cases h

end Instr

theorem Mode.length_of_indexedIndirect {m : Mode} (h : m ∈ [Mode.IZX, .IZY]) : m.length = 2 := by
  cases m with
  | IZX | IZY => rfl
  | IMP | ACC | IMM | ZP | ZPX | ZPY | ABS | ABX | ABY | IND | REL => simp at h

namespace Proofs

open Machine Safety

/-- Settles O50: the addresses of a pointer's two bytes as numbers, under each parameter. -/
theorem indirectModesReadPointers : Obligations.IndirectModesReadPointers := by
  refine ⟨fun s => ⟨fun w => ?ind, fun b => ?izx, fun b => ?izy⟩, fun i h => ?mode,
    fun _ h => Mode.length_of_indexedIndirect h⟩
  case ind =>
    have hw : w = BitVec.ofNat 16 w.toNat := by simp
    rw [Operand.resolve_ind, eaInd, readPointer_ofNat s hw (indirect_next w _)]
  case izx => rw [Operand.resolve_izx, eaIzx, zeroPagePointer_eq s (BitVec.toNat_add b s.x)]
  case izy => rw [Operand.resolve_izy, eaIzy, zeroPagePointer_eq s rfl, zext16_eq_ofNat]
  case mode =>
    obtain ⟨w, rfl⟩ := Instr.eq_jmpInd_of_mode_ind h
    exact ⟨rfl, rfl⟩

/-- Settles O9: each register is read off the definition. -/
theorem resetRegistersAreTheStated : Obligations.ResetRegistersAreTheStated :=
  ⟨fun _ _ => ⟨rfl, rfl, rfl, rfl, rfl, rfl, rfl⟩, fun _ => ⟨rfl, rfl, rfl, rfl, rfl, rfl, rfl, rfl, rfl⟩, rfl⟩

/-- Settles O10: a memory that lists no cell reads as zero everywhere and is canonical. -/
theorem resetMemoryIsZeroAndCanonical : Obligations.ResetMemoryIsZeroAndCanonical :=
  ⟨fun c => Memory.read_nil c.toNat, List.Pairwise.nil, fun _ hc => absurd hc List.not_mem_nil⟩

/-- Settles O11: the bytes are a map over the range. -/
theorem dumpReadsCellsAndStatus : Obligations.DumpReadsCellsAndStatus := by
  refine fun s first count => ⟨?length, fun k hk => ?byte, rfl⟩
  case length => rw [State.dump, List.length_map, List.length_range]
  case byte => rw [State.dump, List.getElem?_map, List.getElem?_range hk, Option.map_some]

end Proofs

end Sys2Proof
end
